-- ==== Sys2Proof/Word.lean ====
section
/-! DEFINITION. The two word types of the 6502 as `spec/` gives them: the byte of the 8-bit data bus and the
address of the 16-bit address bus (rules R7, R20 and R50). -/

namespace Sys2Proof

/-- A byte: the width of `A`, `X`, `Y`, `SP`, `P` and of every memory location (R7, R20, R50). -/
abbrev Byte := BitVec 8

/-- An address: the width of `PC` and of the address bus (R7, R20, R50). -/
abbrev Addr := BitVec 16

end Sys2Proof
end

