-- ==== Sys2Proof/Machine/Bits.lean ====
section
/-! DEFINITION. The bit-field helpers of R9 and R10: the two bytes of an address, widening, and the two-digit decimal
numbers of R130. -/

namespace Sys2Proof.Machine

/-- `(hi : lo)`, the 16-bit value `hi * 256 + lo` (R9). -/
def mkAddr (hi lo : Byte) : Addr := hi ++ lo

/-- The high-order byte of an address, its page (R9, R51). -/
def hiByte (a : Addr) : Byte := a.extractLsb' 8 8

/-- The low-order byte of an address, the location within its page (R9, R51). -/
def loByte (a : Addr) : Byte := a.extractLsb' 0 8

/-- `zext_16` (R10): the address on page $00. -/
def zext (b : Byte) : Addr := b.setWidth 16

/-- `sext_16` (R10): the byte read as a two's-complement number. -/
def sext (b : Byte) : Addr := b.signExtend 16

/-- The address of a location on the stack page: `$0100 + SP` (R23). -/
def stackAddr (sp : Byte) : Addr := mkAddr 0x01 sp

/-- Two addresses are on different pages (R97). -/
def pageDiffers (a b : Addr) : Bool := hiByte a != hiByte b

/-- Both nibbles are decimal digits (R130). -/
def validBcd (b : Byte) : Bool := b.toNat / 16 ≤ 9 && b.toNat % 16 ≤ 9

/-- `val` (R130): the number two decimal digits stand for. -/
def bcdVal (b : Byte) : Nat := 10 * (b.toNat / 16) + b.toNat % 16

/-- `bcd` (R130): the two decimal digits of a number below 100. -/
def toBcd (n : Nat) : Byte := BitVec.ofNat 8 ((n / 10) * 16 + n % 10)

end Sys2Proof.Machine
end

