-- ==== Sys2Proof/Config.lean ====
section
/-! DEFINITION. What `spec/` leaves to the platform or to the implementation: the named parameters of rule R8 as
plain data (one value of `Config` is one system), and the free values of the spec (`any8`, `any1`) as constants
without a body. -/

namespace Sys2Proof

/-- `B_MODEL` (R255, D10): what the break flag is outside BRK. -/
inductive BModel where
  /-- The source taken literally, the spec's default: `B` is a stored bit of `P`. -/
  | latch
  /-- `B` has no storage: bit 4 pushed by IRQ, NMI and PHP is free, and PLP and RTI discard bit 4. -/
  | free
deriving DecidableEq, Repr

/-- `JMP_IND_WRAP` (R93, D5): where JMP (indirect) finds the high byte when the pointer's low byte is `$FF`. -/
inductive JmpIndWrap where
  /-- Nothing is assumed: the high byte of the target is a free value. It stands where D5 recommends `refuse`. -/
  | free
  /-- The high byte is at pointer + 1, on the next page. -/
  | next
  /-- The high byte is at the start of the pointer's own page. -/
  | samePage
deriving DecidableEq, Repr

/-- `VIA_TIME` (R285, D26): how the clock of the VIAs relates to the steps of the CPU. -/
inductive ViaTime where
  /-- The environment says by how many clock pulses the VIAs advance between two CPU accesses. -/
  | free
  /-- Every step advances the VIAs by the step's cycle count. -/
  | cycles
deriving DecidableEq, Repr

/-- The direction in which a VIA's shift register moves (U20; R303 says the source does not give it). -/
inductive ShiftDir where
  /-- Not assumed: the register's contents during and after a transfer, and the bits sent, are free values. -/
  | unstated
  /-- Bits move from bit 0 towards bit 7. -/
  | towardBit7
  /-- Bits move from bit 7 towards bit 0. -/
  | towardBit0
deriving DecidableEq, Repr

/-- What answers at an address that no VIA register claims (`MEMMAP`, D18). -/
inductive RegionKind where
  /-- Read and write memory. -/
  | ram
  /-- Read-only memory: a write is ignored. -/
  | rom
  /-- Nothing: a read is a free value and a write is ignored. -/
  | unmapped
deriving DecidableEq, Repr

/-- One entry of the memory map: the addresses from `first` to `last`, both included. -/
structure Region where
  /-- The lowest address of the region. -/
  first : Addr
  /-- The highest address of the region. -/
  last : Addr
  /-- What answers there. -/
  kind : RegionKind
deriving DecidableEq, Repr

/-- The parameters of one system (R8). They are fixed while the machine runs: no step changes them. -/
structure Config where
  /-- `B_MODEL`. -/
  bModel : BModel
  /-- `JMP_IND_WRAP`. -/
  jmpIndWrap : JmpIndWrap
  /-- `VIA_TIME`. -/
  viaTime : ViaTime
  /-- The direction of the VIA shift registers. -/
  shiftDir : ShiftDir
  /-- `MEMMAP`: the first region that holds an address decides; an address in no region is RAM. -/
  map : List Region
deriving DecidableEq, Repr

/-- The values the spec calls default (`latch`, `free`), nothing assumed where it recommends to assume nothing, and
RAM at every address. -/
def Config.standard : Config :=
  { bModel := .latch, jmpIndWrap := .free, viaTime := .free, shiftDir := .unstated, map := [] }

/-- The free bit `any1` (R10) number `k` of a run. It has no body: no proof can know it. -/
opaque Config.anyBit (k : Nat) : Bool

/-- The free byte `any8` (R10) number `k` of a run. It has no body: no proof can know it. -/
opaque Config.anyByte (k : Nat) : BitVec 8

/-- The free number `k` of a run, where the spec leaves a count open. It has no body: no proof can know it. -/
opaque Config.anyCount (k : Nat) : Nat

end Sys2Proof
end

