-- ==== Sys2Proof/Machine/State.lean ====
section
/-! DEFINITION. The state of the machine as plain data: the six registers of the CPU (R20), the one address space
(R50), the three input lines and the hidden NMI latch (R40), every 6522 VIA of the platform (R282), and the data that
stands for what the spec leaves to the environment. The outcomes a step can end in, and the machine after reset. -/

namespace Sys2Proof.Machine

/-- The processor status register `P` (R26): N bit 7, V bit 6, B bit 4, D bit 3, I bit 2, Z bit 1, C bit 0.
Bit 5 is unused and has no storage (R34, D9). -/
structure Flags where
  /-- Negative flag, bit 7 (R36). -/
  n : Bool
  /-- Overflow flag, bit 6 (R35). -/
  v : Bool
  /-- Break command flag, bit 4 (R33). -/
  b : Bool
  /-- Decimal mode flag, bit 3 (R32). -/
  d : Bool
  /-- Interrupt disable bit, bit 2 (R31). -/
  i : Bool
  /-- Zero flag, bit 1 (R29). -/
  z : Bool
  /-- Carry flag, bit 0 (R28). -/
  c : Bool
deriving DecidableEq, Repr

/-- Memory: the listed bytes by address, in the canonical form `Memory.wf` (Machine/Ops.lean). An address with no
entry reads as `Memory.unlisted`. -/
abbrev Memory := List Host.Cell

/-- The two ports of a VIA with their control lines: A (PA, CA1, CA2) and B (PB, CB1, CB2). -/
inductive Side where
  /-- Port A, CA1 and CA2. -/
  | a
  /-- Port B, CB1 and CB2. -/
  | b
deriving DecidableEq, Repr

/-- One 8-bit port of a VIA (R282, R286 to R291) and the levels the outside puts on its lines. -/
structure Port where
  /-- The output register, ORA or ORB. -/
  out : Byte
  /-- The data direction register, DDRA or DDRB: 1 is an output line. -/
  ddr : Byte
  /-- The input latch, IRA or IRB. -/
  latch : Byte
  /-- The latch holds levels that no CPU read has taken yet (R291). -/
  latched : Bool
  /-- The lines whose level is set from outside. -/
  forced : Byte
  /-- The levels set from outside, where `forced` is 1. -/
  level : Byte
deriving DecidableEq, Repr

/-- The two control lines of one side of a VIA (R307 to R310). -/
structure Control where
  /-- The level of CA1 or CB1 as an input: true is high. -/
  c1 : Bool
  /-- The level of CA2 or CB2 as an input: true is high. -/
  c2 : Bool
  /-- The level of CA2 or CB2 as a handshake or pulse output: true is high. -/
  c2Out : Bool
deriving DecidableEq, Repr

/-- Timer 1 of a VIA (R292 to R298). -/
structure Timer1 where
  /-- The 16-bit counter T1C. -/
  counter : BitVec 16
  /-- The low-order latch T1L_L. -/
  latchLow : Byte
  /-- The high-order latch T1L_H. -/
  latchHigh : Byte
  /-- The counter has no stated contents: nothing written to T1C-H since reset, or zero passed in a one-shot mode where
  `countsOn` is false (U18). -/
  isOpen : Bool
  /-- The next pass through zero sets the flag in a one-shot mode (R296: once for each write of T1C-H). -/
  armed : Bool
  /-- Whether a count of zero has elapsed at once: drawn at each write of T1C-H, the spec does not say. -/
  zeroElapsed : Bool
  /-- Whether the counter goes on past zero in a one-shot mode, as R296 derives, or may then hold any value, as U18 rules:
  drawn at each write of T1C-H, for the spec has it both ways (log entry 30). -/
  countsOn : Bool
  /-- The level timer 1 gives PB7 when ACR bit 7 is 1: true is high. -/
  pb7 : Bool
deriving DecidableEq, Repr

/-- Timer 2 of a VIA (R299 to R302). -/
structure Timer2 where
  /-- The 16-bit counter T2C. -/
  counter : BitVec 16
  /-- The low-order latch T2L_L. -/
  latchLow : Byte
  /-- Not counting towards its flag: nothing written to T2C-H since reset, or zero has been reached (U18). -/
  isOpen : Bool
  /-- Whether a count of zero has elapsed at once: drawn at each write of T2C-H, the spec does not say. -/
  zeroElapsed : Bool
deriving DecidableEq, Repr

/-- The shift register of a VIA (R303, R304). -/
structure Shifter where
  /-- The shift register SR. -/
  sr : Byte
  /-- Shifts still to come in the transfer in progress, 0 to 8. -/
  left : Nat
  /-- The level sent on CB2 in the shift-out modes: true is high. -/
  dataOut : Bool
  /-- The level sent on CB1 in the modes with an internal shift clock: true is high. -/
  clockOut : Bool
deriving DecidableEq, Repr

/-- One 6522 VIA (R282). -/
structure Via where
  /-- `VIA_BASE`: the address of register $0; the sixteen registers follow it (R281, D19). -/
  base : Addr
  /-- Port A. -/
  portA : Port
  /-- Port B. -/
  portB : Port
  /-- CA1 and CA2. -/
  ctlA : Control
  /-- CB1 and CB2. -/
  ctlB : Control
  /-- Timer 1. -/
  t1 : Timer1
  /-- Timer 2. -/
  t2 : Timer2
  /-- The shift register and its count. -/
  shifter : Shifter
  /-- The auxiliary control register ACR (R305). -/
  acr : Byte
  /-- The peripheral control register PCR (R306). -/
  pcr : Byte
  /-- The interrupt flags IFR[6:0]: T1 T2 CB1 CB2 SR CA1 CA2 (R316). -/
  ifr : BitVec 7
  /-- The interrupt enables IER[6:0], in the order of the flags (R317). -/
  ier : BitVec 7
deriving DecidableEq, Repr

/-- What the outside can do to one VIA (R285, R290, R301, R304). A level is true when it is high. -/
inductive ViaEvent where
  /-- The lines of a port named by `forced` are held at the levels `level`; the others are left unconnected. -/
  | port (side : Side) (forced level : Byte)
  /-- CA1 or CB1 takes a level. -/
  | c1 (side : Side) (high : Bool)
  /-- CA2 or CB2 takes a level. -/
  | c2 (side : Side) (high : Bool)
  /-- One pulse appears on PB6. -/
  | pb6Pulse
  /-- One shift pulse, made by the VIA or arriving on CB1 as the shift mode has it. -/
  | shiftPulse
deriving DecidableEq, Repr

/-- What the outside can do to the machine (R241). A level is true when it is high. -/
inductive EnvEvent where
  /-- The devices that are not modelled release IRQ, or pull it low. -/
  | irq (high : Bool)
  /-- NMI takes a level. -/
  | nmi (high : Bool)
  /-- RES takes a level. -/
  | res (high : Bool)
  /-- `n` pulses of the system clock reach every VIA (`VIA_TIME` = `free`; no effect under `cycles`). -/
  | clock (n : Nat)
  /-- An event at the `k`th VIA. -/
  | via (k : Nat) (e : ViaEvent)
deriving DecidableEq, Repr

/-- Everything outside the CPU's registers and memory: the input lines, the NMI latch, the VIAs, and the model's own
data for the environment and for free values. -/
structure Io where
  /-- The level at which the devices that are not modelled leave IRQ: true is high (R241). -/
  irqLine : Bool
  /-- The level of NMI: true is high. -/
  nmiLine : Bool
  /-- The level of RES: true is high. -/
  resLine : Bool
  /-- The hidden bit `nmi_pending` (R245). -/
  nmiPending : Bool
  /-- RES has been low and the reset sequence has not been made since (R243, R340). -/
  resetDue : Bool
  /-- The VIAs of the platform. -/
  vias : List Via
  /-- The model's own: what the environment will do. The first entry happens at the next point where the environment
  can act: an instruction boundary, or just before an access to a VIA register. -/
  env : List (List EnvEvent)
  /-- The model's own: the number of the next free value. -/
  draws : Nat
  /-- The model's own: clock cycles of the step in progress that the VIAs have not seen (`VIA_TIME` = `cycles`). -/
  owed : Nat
deriving DecidableEq, Repr

/-- The state of the machine. -/
structure State where
  /-- The accumulator `A` (R21). -/
  a : Byte
  /-- The index register `X` (R22). -/
  x : Byte
  /-- The index register `Y` (R22). -/
  y : Byte
  /-- The stack pointer `SP` (R23). -/
  sp : Byte
  /-- The program counter `PC` (R24). -/
  pc : Addr
  /-- The processor status register `P` (R26). -/
  p : Flags
  /-- The bytes of RAM and ROM (R50). -/
  mem : Memory
  /-- The input lines, the devices and the environment. -/
  io : Io
  /-- The clock cycles of Table I spent so far: data attached to the steps, not architectural state (R356, R362). -/
  cycles : Nat
  /-- The parameters of the system (R8); no step changes them. -/
  cfg : Config
deriving DecidableEq, Repr

/-- The reasons for which a step could stop the machine. There is none: the hardware has no fault of any kind (R242). -/
inductive Fault
deriving DecidableEq, Repr

/-- The reasons for which a step has no next state. -/
inductive Refusal where
  /-- Raised by an arm of `exec` whose instruction has no meaning in the model. Safe. No arm raises it. -/
  | notModelled (mnemonic : String)
  /-- Raised by `step` when the byte at the program counter is one of the 105 values that Table II does not list: the
  spec gives them no meaning and has the machine refuse to step (R103, D7). Safe. -/
  | unlistedOpcode (opcode : Byte)
  /-- Raised by JSR and BRK when one of their pushes lands on one of their own bytes: the spec decides to refuse the
  case (R351, D14, U11). `pc` is the address of the instruction. Safe. -/
  | ontoItself (pc : Addr)
deriving DecidableEq, Repr

/-- What a step, and the meaning of an instruction, answers. -/
abbrev Outcome := Host.Outcome State Fault Refusal

/-- A port with all lines inputs and nothing connected. -/
def Port.atReset : Port :=
  { out := 0, ddr := 0, latch := 0, latched := false, forced := 0, level := 0 }

/-- Control lines at rest: high. -/
def Control.atReset : Control := { c1 := true, c2 := true, c2Out := true }

/-- A VIA right after its reset (R283). DESIGN CHOICE for what R283 does not list (log entry 4), unsafe. -/
def Via.atReset (base : Addr) : Via :=
  { base := base, portA := Port.atReset, portB := Port.atReset
    ctlA := Control.atReset, ctlB := Control.atReset
    t1 := { counter := 0, latchLow := 0, latchHigh := 0, isOpen := true, armed := false
            zeroElapsed := false, countsOn := false, pb7 := true }
    t2 := { counter := 0, latchLow := 0, isOpen := true, zeroElapsed := false }
    shifter := { sr := 0, left := 0, dataOut := true, clockOut := true }
    acr := 0, pcr := 0, ifr := 0, ier := 0 }

/-- The lines at rest, the VIAs given, an environment that does nothing. DESIGN CHOICE (log entry 5), unsafe. -/
def Io.atReset (vias : List Via) : Io :=
  { irqLine := true, nmiLine := true, resLine := true, nmiPending := false, resetDue := false
    vias := vias, env := [], draws := 0, owed := 0 }

/-- The machine right after the reset sequence (R42): `I` is 1, `nmi_pending` is 0, the program counter holds what
the vector reads in empty memory, and one VIA stands at $A000. DESIGN CHOICE for every register to which R42 gives
no value (log entries 1 to 5), unsafe. -/
def State.reset : State :=
  { a := 0, x := 0, y := 0, sp := 0, pc := 0
    p := { n := false, v := false, b := false, d := false, i := true, z := false, c := false }
    mem := [], io := Io.atReset [Via.atReset 0xA000], cycles := 0, cfg := Config.standard }

end Sys2Proof.Machine
end

