-- ==== Sys2Proof/Machine/Flags.lean ====
section
/-! DEFINITION. Every flag computation of the spec: the packing of `P` into a byte and back (R26), N and Z of a result
(R30), the sums and differences of ADC and SBC in both modes (R120, R130, R131), the comparisons (R121 to R123), BIT
(R142) and the shifts (R141 to R147). -/

namespace Sys2Proof.Machine

/-- 1 for a set flag and 0 for a clear one. -/
def bitNat (f : Bool) : Nat := if f then 1 else 0

/-- The byte `N V - B D I Z C` (R26), with what the push puts in bits 5 and 4 (R34, R255). -/
def Flags.pack (bit5 bit4 : Bool) (f : Flags) : Byte :=
  BitVec.ofBool f.n ++ BitVec.ofBool f.v ++ BitVec.ofBool bit5 ++ BitVec.ofBool bit4 ++
    BitVec.ofBool f.d ++ BitVec.ofBool f.i ++ BitVec.ofBool f.z ++ BitVec.ofBool f.c

/-- The flags a pulled byte loads (R186, R225): bit 5 is discarded (R34), and bit 4 too where `B` has no storage
(R255); `B` then keeps the value `f` has. -/
def Flags.unpack (model : BModel) (byte : Byte) (f : Flags) : Flags :=
  { n := byte.getLsbD 7, v := byte.getLsbD 6
    b := match model with
         | .latch => byte.getLsbD 4
         | .free => f.b
    d := byte.getLsbD 3, i := byte.getLsbD 2, z := byte.getLsbD 1, c := byte.getLsbD 0 }

/-- `setNZ` (R30): N is the most significant bit of the result, Z says that it is zero. -/
def Flags.setNZ (r : Byte) (f : Flags) : Flags := { f with n := r.getLsbD 7, z := r == 0 }

/-- N, Z and C of a shift or a comparison: N and Z of the result, and the carry given. -/
def Flags.setNZC (r : Byte) (carry : Bool) (f : Flags) : Flags := { f.setNZ r with c := carry }

/-- The break flag as the entry sequences set it: only where it has storage (R255). -/
def Flags.setBreak (model : BModel) (f : Flags) : Flags :=
  match model with
  | .latch => { f with b := true }
  | .free => f

/-- What ADC and SBC answer: the result and the four flags they write. -/
structure AluResult where
  /-- The new accumulator. -/
  r : Byte
  /-- The new N. -/
  n : Bool
  /-- The new V. -/
  v : Bool
  /-- The new Z. -/
  z : Bool
  /-- The new C. -/
  c : Bool
deriving DecidableEq, Repr

/-- ADC in binary mode (R120). -/
def addBinary (a m : Byte) (carry : Bool) : AluResult :=
  let t := a.toNat + m.toNat + bitNat carry
  let r : Byte := BitVec.ofNat 8 t
  { r := r, n := r.getLsbD 7
    v := a.getLsbD 7 == m.getLsbD 7 && r.getLsbD 7 != a.getLsbD 7
    z := r == 0, c := decide (255 < t) }

/-- SBC in binary mode (R131): the complement of the carry is the borrow. -/
def subBinary (a m : Byte) (carry : Bool) : AluResult :=
  let borrow := 1 - bitNat carry
  let r : Byte := BitVec.ofNat 8 (256 + a.toNat - m.toNat - borrow)
  { r := r, n := r.getLsbD 7
    v := a.getLsbD 7 != m.getLsbD 7 && r.getLsbD 7 != a.getLsbD 7
    z := r == 0, c := !decide (a.toNat < m.toNat + borrow) }

/-- The flags that decimal mode leaves free: N, V and Z (R130, U5); `d` numbers the first free value. -/
def decimalResult (r : Byte) (carry : Bool) (d : Nat) : AluResult :=
  { r := r, n := Config.anyBit d, v := Config.anyBit (d + 1), z := Config.anyBit (d + 2), c := carry }

/-- ADC in decimal mode (R130): two decimal digits and their carry; where an operand is not valid binary coded
decimal the result and the carry are free too (U6). -/
def addDecimal (a m : Byte) (carry : Bool) (d : Nat) : AluResult :=
  let t := bcdVal a + bcdVal m + bitNat carry
  if validBcd a && validBcd m then decimalResult (toBcd (t % 100)) (decide (99 < t)) d
  else decimalResult (Config.anyByte d) (Config.anyBit (d + 3)) d

/-- SBC in decimal mode (R130). -/
def subDecimal (a m : Byte) (carry : Bool) (d : Nat) : AluResult :=
  let take := bcdVal m + (1 - bitNat carry)
  if validBcd a && validBcd m then
    decimalResult (toBcd ((100 + bcdVal a - take) % 100)) (!decide (bcdVal a < take)) d
  else decimalResult (Config.anyByte d) (Config.anyBit (d + 3)) d

/-- ADC: the decimal mode flag chooses the arithmetic (R32, R120, R130). -/
def addWithCarry (f : Flags) (a m : Byte) (d : Nat) : AluResult :=
  if f.d then addDecimal a m f.c d else addBinary a m f.c

/-- SBC: the decimal mode flag chooses the arithmetic (R32, R130, R131). -/
def subWithCarry (f : Flags) (a m : Byte) (d : Nat) : AluResult :=
  if f.d then subDecimal a m f.c d else subBinary a m f.c

/-- The flags after ADC or SBC: N, V, Z and C (R37). -/
def Flags.setAlu (r : AluResult) (f : Flags) : Flags :=
  { f with n := r.n, v := r.v, z := r.z, c := r.c }

/-- The flags after CMP, CPX and CPY: N and Z of the difference, C when the register is not below the memory
(R121, R122, R123). -/
def Flags.compare (reg m : Byte) (f : Flags) : Flags := f.setNZC (reg - m) (!decide (reg.toNat < m.toNat))

/-- The flags after BIT: N and V are bits 7 and 6 of the memory, Z says that `A and M` is zero (R142). -/
def Flags.bitTest (a m : Byte) (f : Flags) : Flags :=
  { f with n := m.getLsbD 7, v := m.getLsbD 6, z := (a &&& m) == 0 }

/-- The four shifts and rotates. -/
inductive Shift where
  /-- ASL (R141). -/
  | asl
  /-- LSR (R144). -/
  | lsr
  /-- ROL (R146). -/
  | rol
  /-- ROR (R147). -/
  | ror
deriving DecidableEq, Repr

/-- The byte a shift gives, from the operand and the old carry (R141, R144, R146, R147). -/
def Shift.result (k : Shift) (carry : Bool) (m : Byte) : Byte :=
  match k with
  | .asl => m <<< 1
  | .lsr => m >>> 1
  | .rol => (m <<< 1) ||| (if carry then 0x01 else 0x00)
  | .ror => (m >>> 1) ||| (if carry then 0x80 else 0x00)

/-- The bit a shift moves into the carry: bit 7 to the left, bit 0 to the right (R141, R144, R146, R147). -/
def Shift.carryOut (k : Shift) (m : Byte) : Bool :=
  match k with
  | .asl | .rol => m.getLsbD 7
  | .lsr | .ror => m.getLsbD 0

end Sys2Proof.Machine
end

