-- ==== Sys2Proof/Machine/Via.lean ====
section
/-! DEFINITION. The 6522 VIA (R280 to R318): its sixteen registers as the CPU reads and writes them, its two timers,
its shift register, its control lines and its interrupt output. Every function that meets a value the spec leaves
open takes the number `d` of the first free value it may use; the caller moves on by `viaDraws` afterwards. -/

namespace Sys2Proof.Machine

/-- How many free values one VIA operation may use. -/
def viaDraws : Nat := 16

/-! ### Ports (R286 to R291) -/

/-- The levels on the eight lines of a port that drives `driven` on its output lines: a level set from outside wins,
an input line with nothing connected is high (R287, R290). -/
def Port.pins (driven : Byte) (p : Port) : Byte :=
  (p.forced &&& p.level) ||| (~~~p.forced &&& ((p.ddr &&& driven) ||| ~~~p.ddr))

/-- The levels at the time of an active transition are latched (R291). -/
def Port.capture (driven : Byte) (p : Port) : Port := { p with latch := p.pins driven, latched := true }

/-- The latch is released: reads see the pins again (R291). -/
def Port.release (p : Port) : Port := { p with latched := false }

/-- What port A reads as: every bit is the level on its pin, or the latched level (R287, R291). -/
def Port.readA (latching : Bool) (p : Port) : Byte :=
  if latching && p.latched then p.latch else p.pins p.out

/-- What port B reads as: an output bit is the bit of ORB, an input bit is the level on its pin, or the latched
level (R286, R291). -/
def Port.readB (latching : Bool) (driven : Byte) (p : Port) : Byte :=
  (p.ddr &&& p.out) ||| (~~~p.ddr &&& (if latching && p.latched then p.latch else p.pins driven))

/-- A port in the state R283 gives it, its output register free (R283 states none). -/
def Port.cleared (out latch : Byte) (p : Port) : Port :=
  { p with out := out, ddr := 0, latch := latch, latched := false }

/-! ### The fields of ACR and PCR (R305, R306) -/

/-- ACR bit 0: latching of port A; bit 1: latching of port B. -/
def Via.latching (v : Via) : Side → Bool
  | .a => v.acr.getLsbD 0
  | .b => v.acr.getLsbD 1

/-- ACR bits 4, 3, 2: the shift register mode, 0 to 7 (R304). -/
def shiftMode (acr : Byte) : Nat := acr.toNat / 4 % 8

/-- ACR bit 5: timer 2 counts pulses on PB6 (R301). -/
def Via.pulseCounting (v : Via) : Bool := v.acr.getLsbD 5

/-- ACR bit 6: timer 1 is free-running (R296). -/
def Via.freeRunning (v : Via) : Bool := v.acr.getLsbD 6

/-- ACR bit 7: timer 1 drives PB7 (R296). -/
def Via.drivesPb7 (v : Via) : Bool := v.acr.getLsbD 7

/-- The four bits of PCR that control one side: bit 0 the active transition of C1, bits 3, 2, 1 the mode of C2. -/
def sideBits (pcr : Byte) : Side → BitVec 4
  | .a => pcr.extractLsb' 0 4
  | .b => pcr.extractLsb' 4 4

/-- The active transition of C1: true is low to high (R307). -/
def c1Rising (k : BitVec 4) : Bool := k.getLsbD 0

/-- C2 is an output (R308, R309). -/
def c2IsOutput (k : BitVec 4) : Bool := k.getLsbD 3

/-- The active transition of C2 as an input: true is low to high (R308). -/
def c2Rising (k : BitVec 4) : Bool := k.getLsbD 2

/-- C2 is an input whose flag is cleared only through IFR: the independent interrupt mode (R308). -/
def c2Independent (k : BitVec 4) : Bool := !k.getLsbD 3 && k.getLsbD 1

/-- C2 is in the handshake mode (R309). -/
def c2Handshake (k : BitVec 4) : Bool := k.getLsbD 3 && !k.getLsbD 2 && !k.getLsbD 1

/-- C2 is in the pulse mode (R309). -/
def c2Pulse (k : BitVec 4) : Bool := k.getLsbD 3 && !k.getLsbD 2 && k.getLsbD 1

/-- PCR acts on the control lines of a side: always on side A; on side B only while the shift register is disabled
(R304). -/
def Via.pcrActive (v : Via) : Side → Bool
  | .a => true
  | .b => shiftMode v.acr == 0

/-- The bits of PCR for a side of this VIA. -/
def Via.bits (v : Via) (side : Side) : BitVec 4 := sideBits v.pcr side

/-! ### Interrupt flags (R284, R316) -/

/-- The bit of IFR that C1 of a side sets: CA1 is bit 1, CB1 is bit 4. -/
def c1Flag : Side → Nat
  | .a => 1
  | .b => 4

/-- The bit of IFR that C2 of a side sets: CA2 is bit 0, CB2 is bit 3. -/
def c2Flag : Side → Nat
  | .a => 0
  | .b => 3

/-- The bit of IFR of the shift register. -/
def srFlag : Nat := 2

/-- The bit of IFR of timer 2. -/
def t2Flag : Nat := 5

/-- The bit of IFR of timer 1. -/
def t1Flag : Nat := 6

/-- A word of flags with one of them alone. -/
def flagBit (k : Nat) : BitVec 7 := BitVec.ofNat 7 (2 ^ k)

/-- Set an interrupt flag. -/
def Via.setFlag (k : Nat) (v : Via) : Via := { v with ifr := v.ifr ||| flagBit k }

/-- Reset an interrupt flag. -/
def Via.clearFlag (k : Nat) (v : Via) : Via := { v with ifr := v.ifr &&& ~~~flagBit k }

/-- An interrupt flag. -/
def Via.flag (k : Nat) (v : Via) : Bool := v.ifr.getLsbD k

/-- `irq_active`: some flag is set whose enable bit is 1 (R284). The IRQ pin is low exactly then. -/
def Via.irqActive (v : Via) : Bool := (v.ifr &&& v.ier) != 0

/-! ### Ports and control lines by side -/

/-- The port of a side. -/
def Via.port (v : Via) : Side → Port
  | .a => v.portA
  | .b => v.portB

/-- Replace the port of a side. -/
def Via.setPort (side : Side) (p : Port) (v : Via) : Via :=
  match side with
  | .a => { v with portA := p }
  | .b => { v with portB := p }

/-- The control lines of a side. -/
def Via.ctl (v : Via) : Side → Control
  | .a => v.ctlA
  | .b => v.ctlB

/-- Replace the control lines of a side. -/
def Via.setCtl (side : Side) (c : Control) (v : Via) : Via :=
  match side with
  | .a => { v with ctlA := c }
  | .b => { v with ctlB := c }

/-- The levels a side drives on its output lines: the output register, but PB7 follows timer 1 when ACR bit 7 is 1
(R286, R296). -/
def Via.driven (v : Via) : Side → Byte
  | .a => v.portA.out
  | .b =>
    if v.drivesPb7 then (v.portB.out &&& 0x7F) ||| (if v.t1.pb7 then 0x80 else 0x00) else v.portB.out

/-- The levels on the eight lines PA or PB. -/
def Via.pins (v : Via) (side : Side) : Byte := (v.port side).pins (v.driven side)

/-- The shift register drives CB2: the shift-out modes 4 to 7 (R304). -/
def shiftsOut (mode : Nat) : Bool := 4 ≤ mode

/-- The shift pulses come from outside on CB1: modes 3 and 7 (R304). -/
def externalClock (mode : Nat) : Bool := mode == 3 || mode == 7

/-- The level on CA2 or CB2 (R304, R308, R309, R310). -/
def Via.c2Level (v : Via) (side : Side) : Bool :=
  let k := v.bits side
  let line := v.ctl side
  if v.pcrActive side then
    if c2IsOutput k then (if c2Handshake k || c2Pulse k then line.c2Out else c2Rising k && k.getLsbD 1)
    else line.c2
  else if shiftsOut (shiftMode v.acr) then v.shifter.dataOut else line.c2

/-- The level on CA1 or CB1: CB1 is an output in the shift modes with an internal clock (R304, R310). -/
def Via.c1Level (v : Via) : Side → Bool
  | .a => v.ctlA.c1
  | .b =>
    let m := shiftMode v.acr
    if m == 0 || externalClock m then v.ctlB.c1 else v.shifter.clockOut

/-- C2 of a side is in the independent interrupt mode, while PCR acts on it (R304, R308, R310). -/
def Via.independent (v : Via) (side : Side) : Bool := v.pcrActive side && c2Independent (v.bits side)

/-- The flags a CPU access to the port of a side resets: C1's, and C2's unless it is independent (R286, R287). While a
shift mode is enabled the PCR settings of CB2 do not apply (R304), so that an access of ORB resets its flag: DEDUCED
(log entry 37). A C2 flag left set while C2 is an output is reset too, as R286 and R287 except the independent mode
alone, though R316 has "normal input mode only": DEDUCED (log entry 37). -/
def Via.clearPortFlags (side : Side) (v : Via) : Via :=
  let v1 := v.clearFlag (c1Flag side)
  if v.independent side then v1 else v1.clearFlag (c2Flag side)

/-- C2 goes low on an access that starts a handshake or a pulse (R309, R310). -/
def Via.startC2 (side : Side) (v : Via) : Via :=
  if v.pcrActive side && (c2Handshake (v.bits side) || c2Pulse (v.bits side)) then
    v.setCtl side { v.ctl side with c2Out := false }
  else v

/-! ### Timers (R292 to R302) -/

/-- Timer 1 is loaded and started by a write of its high-order byte (R293). -/
def Timer1.load (high : Byte) (drivesPb7 zeroElapsed countsOn : Bool) (t : Timer1) : Timer1 :=
  { t with
    latchHigh := high, counter := mkAddr high t.latchLow, isOpen := false, armed := true
    zeroElapsed := zeroElapsed, countsOn := countsOn, pb7 := if drivesPb7 then false else t.pb7 }

/-- At the next clock pulse timer 1 reaches zero. -/
def Timer1.reachesZero (freeRun : Bool) (t : Timer1) : Bool :=
  !t.isOpen && (t.counter == 1 || (t.counter == 0 && t.zeroElapsed && (t.armed || freeRun)))

/-- At the next clock pulse timer 1 sets its flag: whenever it reaches zero in a free-running mode, once for each load
in a one-shot mode (R296). -/
def Timer1.fires (freeRun : Bool) (t : Timer1) : Bool := t.reachesZero freeRun && (freeRun || t.armed)

/-- One clock pulse of timer 1 (R296): at zero a free-running timer is loaded from its latches and inverts PB7, a
one-shot timer returns PB7 high. Past zero a one-shot counter goes on, as R296 derives, or has no stated contents, as U18
rules: the free bit `countsOn` says which. -/
def Timer1.tick (freeRun drivesPb7 : Bool) (t : Timer1) : Timer1 :=
  if t.isOpen then t
  else if t.reachesZero freeRun then
    if freeRun then
      { t with counter := mkAddr t.latchHigh t.latchLow, armed := false
               pb7 := if drivesPb7 then !t.pb7 else t.pb7 }
    else
      { t with counter := t.counter - 1, armed := false, isOpen := !t.countsOn
               pb7 := if drivesPb7 && t.armed then true else t.pb7 }
  else { t with counter := t.counter - 1 }

/-- Timer 2 is loaded and started by a write of its high-order byte (R300). -/
def Timer2.load (high : Byte) (zeroElapsed : Bool) (t : Timer2) : Timer2 :=
  { t with counter := mkAddr high t.latchLow, isOpen := false, zeroElapsed := zeroElapsed }

/-- At the next count timer 2 reaches zero and sets its flag (R301). -/
def Timer2.fires (t : Timer2) : Bool :=
  !t.isOpen && (t.counter == 1 || (t.counter == 0 && t.zeroElapsed))

/-- One count of timer 2: a clock pulse, or a pulse on PB6 (R301). After zero its contents are not stated (U18). -/
def Timer2.count (t : Timer2) : Timer2 :=
  if t.isOpen then t
  else { t with counter := t.counter - 1, isOpen := t.fires }

/-- Timer 2 counts once, and the flag follows. -/
def Via.countT2 (v : Via) : Via :=
  let v1 := { v with t2 := v.t2.count }
  if v.t2.fires then v1.setFlag t2Flag else v1

/-- A pulse on C2 ends with the clock pulse (R309). -/
def Via.endPulse (side : Side) (v : Via) : Via :=
  if c2Pulse (v.bits side) then v.setCtl side { v.ctl side with c2Out := true } else v

/-- One pulse of the system clock: timer 1 always counts, timer 2 in its timed mode, and C2 pulses end (R296, R301,
R309). -/
def Via.tick (v : Via) : Via :=
  let v1 := { v with t1 := v.t1.tick v.freeRunning v.drivesPb7 }
  let v2 := if v.t1.fires v.freeRunning then v1.setFlag t1Flag else v1
  let v3 := if v.pulseCounting then v2 else v2.countT2
  (v3.endPulse .a).endPulse .b

/-- `n` pulses of the system clock. -/
def Via.ticks : Nat → Via → Via
  | 0, v => v
  | n + 1, v => Via.ticks n v.tick

/-! ### Shift register (R303, R304) -/

/-- A read or a write of SR resets its flag and, in every enabled mode but 3, starts eight shifts. In mode 3 the pulses
are counted without a start; whether the access starts the count again is not stated. -/
def Via.accessSr (d : Nat) (v : Via) : Via :=
  let m := shiftMode v.acr
  let left :=
    if m == 0 then 0
    else if m == 3 then (if Config.anyBit d then 0 else v.shifter.left)
    else 8
  { v with shifter := { v.shifter with left := left } }.clearFlag srFlag

/-- The contents of SR after one shift in the direction given, the bit `b` entering. -/
def shiftedIn (dir : ShiftDir) (b : Bool) (d : Nat) (sr : Byte) : Byte :=
  match dir with
  | .unstated => Config.anyByte d
  | .towardBit7 => (sr <<< 1) ||| (if b then 0x01 else 0x00)
  | .towardBit0 => (sr >>> 1) ||| (if b then 0x80 else 0x00)

/-- The bit that leaves SR in a shift out. -/
def shiftedOut (dir : ShiftDir) (d : Nat) (sr : Byte) : Bool :=
  match dir with
  | .unstated => Config.anyBit d
  | .towardBit7 => sr.getLsbD 7
  | .towardBit0 => sr.getLsbD 0

/-- One shift, the count apart: in a shift-in mode the level of CB2 enters; in a shift-out mode a bit goes to CB2 and
the bit that enters is free. The level the pulse leaves on CB1 is free (R303, R304, U20). -/
def Shifter.shift (dir : ShiftDir) (out cb2 : Bool) (d : Nat) (r : Shifter) : Shifter :=
  { r with
    sr := shiftedIn dir (if out then Config.anyBit d else cb2) (d + 1) r.sr
    dataOut := if out then shiftedOut dir (d + 2) r.sr else r.dataOut
    clockOut := Config.anyBit (d + 3) }

/-- One shift pulse (R304). Mode 3 counts eights without end; mode 4 shifts without end once started and may or may
not set the flag at each eighth shift (none is mentioned); the other modes set the flag at the eighth shift. -/
def Via.shiftPulse (dir : ShiftDir) (d : Nat) (v : Via) : Via :=
  let m := shiftMode v.acr
  let left := if m == 3 && v.shifter.left == 0 then 8 else v.shifter.left
  if m == 0 || left == 0 then v
  else
    let moved := v.shifter.shift dir (shiftsOut m) v.ctlB.c2 d
    if left == 1 then
      let v1 := { v with shifter := { moved with left := if m == 4 then 8 else 0 } }
      if m == 4 && !Config.anyBit (d + 4) then v1 else v1.setFlag srFlag
    else { v with shifter := { moved with left := left - 1 } }

/-! ### Registers (R281) -/

/-- The sixteen registers. -/
inductive ViaReg where
  /-- $0, ORB/IRB (R286). -/
  | orb
  /-- $1, ORA/IRA (R287). -/
  | ora
  /-- $2, DDRB (R288). -/
  | ddrb
  /-- $3, DDRA (R289). -/
  | ddra
  /-- $4, T1C-L (R292). -/
  | t1cL
  /-- $5, T1C-H (R293). -/
  | t1cH
  /-- $6, T1L-L (R294). -/
  | t1lL
  /-- $7, T1L-H (R295). -/
  | t1lH
  /-- $8, T2C-L (R299). -/
  | t2cL
  /-- $9, T2C-H (R300). -/
  | t2cH
  /-- $A, SR (R303). -/
  | sr
  /-- $B, ACR (R305). -/
  | acr
  /-- $C, PCR (R306). -/
  | pcr
  /-- $D, IFR (R316). -/
  | ifr
  /-- $E, IER (R317). -/
  | ier
  /-- $F, ORA/IRA without handshake (R318). -/
  | oraNoHandshake
deriving DecidableEq, Repr

/-- The register that an address selects in a VIA whose registers start at `base` (R281). -/
def selectReg (base a : Addr) : Option ViaReg :=
  match (a - base).toNat with
  | 0 => some .orb
  | 1 => some .ora
  | 2 => some .ddrb
  | 3 => some .ddra
  | 4 => some .t1cL
  | 5 => some .t1cH
  | 6 => some .t1lL
  | 7 => some .t1lH
  | 8 => some .t2cL
  | 9 => some .t2cH
  | 10 => some .sr
  | 11 => some .acr
  | 12 => some .pcr
  | 13 => some .ifr
  | 14 => some .ier
  | 15 => some .oraNoHandshake
  | _ => none

/-- What a CPU read of a register returns (R286 to R318). -/
def Via.readValue (r : ViaReg) (d : Nat) (v : Via) : Byte :=
  match r with
  | .orb => v.portB.readB (v.latching .b) (v.driven .b)
  | .ora | .oraNoHandshake => v.portA.readA (v.latching .a)
  | .ddrb => v.portB.ddr
  | .ddra => v.portA.ddr
  | .t1cL => if v.t1.isOpen then Config.anyByte d else loByte v.t1.counter
  | .t1cH => if v.t1.isOpen then Config.anyByte d else hiByte v.t1.counter
  | .t1lL => v.t1.latchLow
  | .t1lH => v.t1.latchHigh
  | .t2cL => if v.t2.isOpen then Config.anyByte d else loByte v.t2.counter
  | .t2cH => if v.t2.isOpen then Config.anyByte d else hiByte v.t2.counter
  | .sr => v.shifter.sr
  | .acr => v.acr
  | .pcr => v.pcr
  | .ifr => BitVec.ofBool v.irqActive ++ v.ifr
  | .ier => 1#1 ++ v.ier

/-- An access through register $F: whether it resets the CA1 and CA2 flags is not stated (R318), so each may stay
or be reset; the CA2 flag stays in the independent interrupt mode (R308). -/
def Via.maybeClearPortA (d : Nat) (v : Via) : Via :=
  let v1 := if Config.anyBit d then v.clearFlag (c1Flag .a) else v
  if Config.anyBit (d + 1) && !c2Independent (v.bits .a) then v1.clearFlag (c2Flag .a) else v1

/-- What a CPU read of a register does to the VIA (R286 to R318). -/
def Via.readEffect (r : ViaReg) (d : Nat) (v : Via) : Via :=
  match r with
  | .orb => (v.clearPortFlags .b).setPort .b v.portB.release
  | .ora => ((v.clearPortFlags .a).startC2 .a).setPort .a v.portA.release
  | .oraNoHandshake => (v.maybeClearPortA d).setPort .a v.portA.release
  | .t1cL => v.clearFlag t1Flag
  | .t2cL => v.clearFlag t2Flag
  | .sr => v.accessSr d
  | .ddrb | .ddra | .t1cH | .t1lL | .t1lH | .t2cH | .acr | .pcr | .ifr | .ier => v

/-- Shifts to come after a write of ACR that takes the shift mode from `m` to `m'`: none when the register is or
was disabled; not stated when one enabled mode is changed for another. -/
def shiftsAfterModeChange (m m' d left : Nat) : Nat :=
  if m' == 0 || m == 0 then 0 else if m == m' then left else Config.anyCount d % 9

/-- CB2's handshake or pulse level after a write of ACR that takes the shift mode from `m` to `m'`: when the shift
register is disabled PCR gets CB2 back, and the level the line then has in the handshake and pulse modes is not stated:
a free bit (log entry 37). -/
def c2AfterShift (m m' d : Nat) (c : Control) : Control :=
  if m != 0 && m' == 0 then { c with c2Out := Config.anyBit d } else c

/-- A CPU write of ACR (R305): effective at once; disabling the shift register resets its flag (R304), disabling
latching releases the latch (R291). The level of PB7 when timer 1 is given it, that of CB1 and CB2 when the shift
register is given them, and that of CB2 as a handshake or pulse output when it is given back, are not stated.
The write sets no flag of CB1 or CB2, though it may give them back to PCR: DESIGN CHOICE (log entry 42). -/
def Via.writeAcr (acr : Byte) (d : Nat) (v : Via) : Via :=
  let m := shiftMode v.acr
  let m' := shiftMode acr
  let v1 :=
    { v with
      acr := acr
      portA := if acr.getLsbD 0 then v.portA else v.portA.release
      portB := if acr.getLsbD 1 then v.portB else v.portB.release
      ctlB := c2AfterShift m m' (d + 3) v.ctlB
      t1 := if acr.getLsbD 7 && !v.acr.getLsbD 7 then { v.t1 with pb7 := Config.anyBit d } else v.t1
      shifter :=
        { v.shifter with
          left := shiftsAfterModeChange m m' d v.shifter.left
          dataOut := if m == m' then v.shifter.dataOut else Config.anyBit (d + 1)
          clockOut := if m == m' then v.shifter.clockOut else Config.anyBit (d + 2) } }
  if m' == 0 then v1.clearFlag srFlag else v1

/-- The level of C2 after a write of PCR: not stated when the handshake or the pulse mode is entered. -/
def c2AfterPcr (old new : BitVec 4) (d : Nat) (c : Control) : Control :=
  if (c2Handshake new && !c2Handshake old) || (c2Pulse new && !c2Pulse old) then
    { c with c2Out := Config.anyBit d }
  else c

/-- A CPU write of PCR (R306): effective at once. It sets no flag: an active transition is a transition of the line (R307,
R308), and that a write which makes C2 an input or selects the other edge is none is a DESIGN CHOICE (log entry 42). -/
def Via.writePcr (pcr : Byte) (d : Nat) (v : Via) : Via :=
  { v with
    pcr := pcr
    ctlA := c2AfterPcr (sideBits v.pcr .a) (sideBits pcr .a) d v.ctlA
    ctlB := c2AfterPcr (sideBits v.pcr .b) (sideBits pcr .b) (d + 1) v.ctlB }

/-- A CPU write of a register (R286 to R318). -/
def Via.write (r : ViaReg) (b : Byte) (d : Nat) (v : Via) : Via :=
  match r with
  | .orb => ((v.clearPortFlags .b).startC2 .b).setPort .b { v.portB with out := b }
  | .ora => ((v.clearPortFlags .a).startC2 .a).setPort .a { v.portA with out := b }
  | .oraNoHandshake => (v.maybeClearPortA d).setPort .a { v.portA with out := b }
  | .ddrb => { v with portB := { v.portB with ddr := b } }
  | .ddra => { v with portA := { v.portA with ddr := b } }
  | .t1cL | .t1lL => { v with t1 := { v.t1 with latchLow := b } }
  | .t1cH => { v with t1 := v.t1.load b v.drivesPb7 (Config.anyBit d) (Config.anyBit (d + 1)) }.clearFlag t1Flag
  | .t1lH => { v with t1 := { v.t1 with latchHigh := b } }
  | .t2cL => { v with t2 := { v.t2 with latchLow := b } }
  | .t2cH => { v with t2 := v.t2.load b (Config.anyBit d) }.clearFlag t2Flag
  | .sr => { v with shifter := { v.shifter with sr := b } }.accessSr d
  | .acr => v.writeAcr b d
  | .pcr => v.writePcr b d
  | .ifr => { v with ifr := v.ifr &&& ~~~b.extractLsb' 0 7 }
  | .ier =>
    { v with
      ier := if b.getLsbD 7 then v.ier ||| b.extractLsb' 0 7 else v.ier &&& ~~~b.extractLsb' 0 7 }

/-! ### Events from outside and reset -/

/-- C1 of a side takes a level. On the active transition its flag is set, the port is latched if latching is enabled,
and a handshake on C2 ends (R307, R309, R310). The level before it is the last from outside: DESIGN CHOICE (log entry
42). -/
def Via.c1Event (side : Side) (high : Bool) (v : Via) : Via :=
  let old := (v.ctl side).c1
  let v1 := v.setCtl side { v.ctl side with c1 := high }
  if v.pcrActive side && old != high && high == c1Rising (v.bits side) then
    let v2 := v1.setFlag (c1Flag side)
    let v3 := if v.latching side then v2.setPort side ((v.port side).capture (v.driven side)) else v2
    if c2Handshake (v.bits side) then v3.setCtl side { v3.ctl side with c2Out := true } else v3
  else v1

/-- C2 of a side takes a level from outside. On the active transition of an input its flag is set (R308, R310); the level
before it is the last from outside, taken also while C2 was an output: DESIGN CHOICE (log entry 42). -/
def Via.c2Event (side : Side) (high : Bool) (v : Via) : Via :=
  let old := (v.ctl side).c2
  let k := v.bits side
  let v1 := v.setCtl side { v.ctl side with c2 := high }
  if v.pcrActive side && !c2IsOutput k && old != high && high == c2Rising k then v1.setFlag (c2Flag side)
  else v1

/-- A pulse on PB6 is counted in the pulse-counting mode; whether it is counted when PB6 is an output is not stated
(R301). -/
def Via.pb6Pulse (d : Nat) (v : Via) : Via :=
  if v.pulseCounting && (!v.portB.ddr.getLsbD 6 || Config.anyBit d) then v.countT2 else v

/-- What an event from outside does to a VIA. -/
def Via.event (dir : ShiftDir) (d : Nat) (e : ViaEvent) (v : Via) : Via :=
  match e with
  | .port side forced level => v.setPort side { v.port side with forced := forced, level := level }
  | .c1 side high => v.c1Event side high
  | .c2 side high => v.c2Event side high
  | .pb6Pulse => v.pb6Pulse d
  | .shiftPulse => v.shiftPulse dir d

/-- VIA reset (R283): DDRA, DDRB, PCR, ACR and IFR are cleared and interrupts disabled; the output registers, the
timers, their latches and SR are not stated. The levels outside stay as they are. -/
def Via.reset (d : Nat) (v : Via) : Via :=
  { v with
    portA := v.portA.cleared (Config.anyByte d) (Config.anyByte (d + 1))
    portB := v.portB.cleared (Config.anyByte (d + 2)) (Config.anyByte (d + 3))
    t1 := { v.t1 with
            latchLow := Config.anyByte (d + 4), latchHigh := Config.anyByte (d + 5)
            isOpen := true, armed := false }
    t2 := { v.t2 with latchLow := Config.anyByte (d + 6), isOpen := true }
    shifter := { v.shifter with sr := Config.anyByte (d + 7), left := 0 }
    acr := 0, pcr := 0, ifr := 0, ier := 0 }

end Sys2Proof.Machine
end

