-- ==== Sys2Proof/Syntax.lean ====
section
/-! DEFINITION. The instructions of the 6502: one constructor for each of the 151 operation codes of Table II
(R100, `spec/opcode_table.json`). An operand is the value its bytes hold: `imm` data, `zp` an address on page $00,
`disp` a displacement, `addr` a 16-bit address (R80). Also the 56 mnemonics and the 13 addressing modes. -/

namespace Sys2Proof

/-- One operation code of Table II with its operand. -/
inductive Instr where
  /-- `ADC (Operand,X)`, code $61 (R120, R94). -/
  | adcIndx (zp : Byte)
  /-- `ADC Operand`, code $65 (R120, R89). -/
  | adcZp (zp : Byte)
  /-- `ADC #Operand`, code $69 (R120, R87). -/
  | adcImm (imm : Byte)
  /-- `ADC Operand`, code $6D (R120, R88). -/
  | adcAbs (addr : Addr)
  /-- `ADC (Operand),Y`, code $71 (R120, R95). -/
  | adcIndy (zp : Byte)
  /-- `ADC Operand,X`, code $75 (R120, R90). -/
  | adcZpx (zp : Byte)
  /-- `ADC Operand,Y`, code $79 (R120, R92). -/
  | adcAbsy (addr : Addr)
  /-- `ADC Operand,X`, code $7D (R120, R91). -/
  | adcAbsx (addr : Addr)
  /-- `AND (Operand,X)`, code $21 (R140, R94). -/
  | andIndx (zp : Byte)
  /-- `AND Operand`, code $25 (R140, R89). -/
  | andZp (zp : Byte)
  /-- `AND #Operand`, code $29 (R140, R87). -/
  | andImm (imm : Byte)
  /-- `AND Operand`, code $2D (R140, R88). -/
  | andAbs (addr : Addr)
  /-- `AND (Operand),Y`, code $31 (R140, R95). -/
  | andIndy (zp : Byte)
  /-- `AND Operand,X`, code $35 (R140, R90). -/
  | andZpx (zp : Byte)
  /-- `AND Operand,Y`, code $39 (R140, R92). -/
  | andAbsy (addr : Addr)
  /-- `AND Operand,X`, code $3D (R140, R91). -/
  | andAbsx (addr : Addr)
  /-- `ASL Operand`, code $06 (R141, R89). -/
  | aslZp (zp : Byte)
  /-- `ASL A`, code $0A (R141, R86). -/
  | aslAcc
  /-- `ASL Operand`, code $0E (R141, R88). -/
  | aslAbs (addr : Addr)
  /-- `ASL Operand,X`, code $16 (R141, R90). -/
  | aslZpx (zp : Byte)
  /-- `ASL Operand,X`, code $1E (R141, R91). -/
  | aslAbsx (addr : Addr)
  /-- `BCC Operand`, code $90 (R161, R96). -/
  | bcc (disp : Byte)
  /-- `BCS Operand`, code $B0 (R162, R96). -/
  | bcs (disp : Byte)
  /-- `BEQ Operand`, code $F0 (R163, R96). -/
  | beq (disp : Byte)
  /-- `BIT Operand`, code $24 (R142, R89). -/
  | bitZp (zp : Byte)
  /-- `BIT Operand`, code $2C (R142, R88). -/
  | bitAbs (addr : Addr)
  /-- `BMI Operand`, code $30 (R164, R96). -/
  | bmi (disp : Byte)
  /-- `BNE Operand`, code $D0 (R165, R96). -/
  | bne (disp : Byte)
  /-- `BPL Operand`, code $10 (R166, R96). -/
  | bpl (disp : Byte)
  /-- `BRK`, code $00 (R180, R85). -/
  | brk
  /-- `BVC Operand`, code $50 (R167, R96). -/
  | bvc (disp : Byte)
  /-- `BVS Operand`, code $70 (R168, R96). -/
  | bvs (disp : Byte)
  /-- `CLC`, code $18 (R181, R85). -/
  | clc
  /-- `CLD`, code $D8 (R182, R85). -/
  | cld
  /-- `CLI`, code $58 (R183, R85). -/
  | cli
  /-- `CLV`, code $B8 (R184, R85). -/
  | clv
  /-- `CMP (Operand,X)`, code $C1 (R121, R94). -/
  | cmpIndx (zp : Byte)
  /-- `CMP Operand`, code $C5 (R121, R89). -/
  | cmpZp (zp : Byte)
  /-- `CMP #Operand`, code $C9 (R121, R87). -/
  | cmpImm (imm : Byte)
  /-- `CMP Operand`, code $CD (R121, R88). -/
  | cmpAbs (addr : Addr)
  /-- `CMP (Operand),Y`, code $D1 (R121, R95). -/
  | cmpIndy (zp : Byte)
  /-- `CMP Operand,X`, code $D5 (R121, R90). -/
  | cmpZpx (zp : Byte)
  /-- `CMP Operand,Y`, code $D9 (R121, R92). -/
  | cmpAbsy (addr : Addr)
  /-- `CMP Operand,X`, code $DD (R121, R91). -/
  | cmpAbsx (addr : Addr)
  /-- `CPX #Operand`, code $E0 (R122, R87). -/
  | cpxImm (imm : Byte)
  /-- `CPX Operand`, code $E4 (R122, R89). -/
  | cpxZp (zp : Byte)
  /-- `CPX Operand`, code $EC (R122, R88). -/
  | cpxAbs (addr : Addr)
  /-- `CPY #Operand`, code $C0 (R123, R87). -/
  | cpyImm (imm : Byte)
  /-- `CPY Operand`, code $C4 (R123, R89). -/
  | cpyZp (zp : Byte)
  /-- `CPY Operand`, code $CC (R123, R88). -/
  | cpyAbs (addr : Addr)
  /-- `DEC Operand`, code $C6 (R124, R89). -/
  | decZp (zp : Byte)
  /-- `DEC Operand`, code $CE (R124, R88). -/
  | decAbs (addr : Addr)
  /-- `DEC Operand,X`, code $D6 (R124, R90). -/
  | decZpx (zp : Byte)
  /-- `DEC Operand,X`, code $DE (R124, R91). -/
  | decAbsx (addr : Addr)
  /-- `DEX`, code $CA (R125, R85). -/
  | dex
  /-- `DEY`, code $88 (R126, R85). -/
  | dey
  /-- `EOR (Operand,X)`, code $41 (R143, R94). -/
  | eorIndx (zp : Byte)
  /-- `EOR Operand`, code $45 (R143, R89). -/
  | eorZp (zp : Byte)
  /-- `EOR #Operand`, code $49 (R143, R87). -/
  | eorImm (imm : Byte)
  /-- `EOR Operand`, code $4D (R143, R88). -/
  | eorAbs (addr : Addr)
  /-- `EOR (Operand),Y`, code $51 (R143, R95). -/
  | eorIndy (zp : Byte)
  /-- `EOR Operand,X`, code $55 (R143, R90). -/
  | eorZpx (zp : Byte)
  /-- `EOR Operand,Y`, code $59 (R143, R92). -/
  | eorAbsy (addr : Addr)
  /-- `EOR Operand,X`, code $5D (R143, R91). -/
  | eorAbsx (addr : Addr)
  /-- `INC Operand`, code $E6 (R127, R89). -/
  | incZp (zp : Byte)
  /-- `INC Operand`, code $EE (R127, R88). -/
  | incAbs (addr : Addr)
  /-- `INC Operand,X`, code $F6 (R127, R90). -/
  | incZpx (zp : Byte)
  /-- `INC Operand,X`, code $FE (R127, R91). -/
  | incAbsx (addr : Addr)
  /-- `INX`, code $E8 (R128, R85). -/
  | inx
  /-- `INY`, code $C8 (R129, R85). -/
  | iny
  /-- `JMP Operand`, code $4C (R169, R88). -/
  | jmpAbs (addr : Addr)
  /-- `JMP (Operand)`, code $6C (R169, R93). -/
  | jmpInd (addr : Addr)
  /-- `JSR Operand`, code $20 (R170, R88). -/
  | jsr (addr : Addr)
  /-- `LDA (Operand,X)`, code $A1 (R200, R94). -/
  | ldaIndx (zp : Byte)
  /-- `LDA Operand`, code $A5 (R200, R89). -/
  | ldaZp (zp : Byte)
  /-- `LDA #Operand`, code $A9 (R200, R87). -/
  | ldaImm (imm : Byte)
  /-- `LDA Operand`, code $AD (R200, R88). -/
  | ldaAbs (addr : Addr)
  /-- `LDA (Operand),Y`, code $B1 (R200, R95). -/
  | ldaIndy (zp : Byte)
  /-- `LDA Operand,X`, code $B5 (R200, R90). -/
  | ldaZpx (zp : Byte)
  /-- `LDA Operand,Y`, code $B9 (R200, R92). -/
  | ldaAbsy (addr : Addr)
  /-- `LDA Operand,X`, code $BD (R200, R91). -/
  | ldaAbsx (addr : Addr)
  /-- `LDX #Operand`, code $A2 (R201, R87). -/
  | ldxImm (imm : Byte)
  /-- `LDX Operand`, code $A6 (R201, R89). -/
  | ldxZp (zp : Byte)
  /-- `LDX Operand`, code $AE (R201, R88). -/
  | ldxAbs (addr : Addr)
  /-- `LDX Operand,Y`, code $B6 (R201, R90). -/
  | ldxZpy (zp : Byte)
  /-- `LDX Operand,Y`, code $BE (R201, R92). -/
  | ldxAbsy (addr : Addr)
  /-- `LDY #Operand`, code $A0 (R202, R87). -/
  | ldyImm (imm : Byte)
  /-- `LDY Operand`, code $A4 (R202, R89). -/
  | ldyZp (zp : Byte)
  /-- `LDY Operand`, code $AC (R202, R88). -/
  | ldyAbs (addr : Addr)
  /-- `LDY Operand,X`, code $B4 (R202, R90). -/
  | ldyZpx (zp : Byte)
  /-- `LDY Operand,X`, code $BC (R202, R91). -/
  | ldyAbsx (addr : Addr)
  /-- `LSR Operand`, code $46 (R144, R89). -/
  | lsrZp (zp : Byte)
  /-- `LSR A`, code $4A (R144, R86). -/
  | lsrAcc
  /-- `LSR Operand`, code $4E (R144, R88). -/
  | lsrAbs (addr : Addr)
  /-- `LSR Operand,X`, code $56 (R144, R90). -/
  | lsrZpx (zp : Byte)
  /-- `LSR Operand,X`, code $5E (R144, R91). -/
  | lsrAbsx (addr : Addr)
  /-- `NOP`, code $EA (R185, R85). -/
  | nop
  /-- `ORA (Operand,X)`, code $01 (R145, R94). -/
  | oraIndx (zp : Byte)
  /-- `ORA Operand`, code $05 (R145, R89). -/
  | oraZp (zp : Byte)
  /-- `ORA #Operand`, code $09 (R145, R87). -/
  | oraImm (imm : Byte)
  /-- `ORA Operand`, code $0D (R145, R88). -/
  | oraAbs (addr : Addr)
  /-- `ORA (Operand),Y`, code $11 (R145, R95). -/
  | oraIndy (zp : Byte)
  /-- `ORA Operand,X`, code $15 (R145, R90). -/
  | oraZpx (zp : Byte)
  /-- `ORA Operand,Y`, code $19 (R145, R92). -/
  | oraAbsy (addr : Addr)
  /-- `ORA Operand,X`, code $1D (R145, R91). -/
  | oraAbsx (addr : Addr)
  /-- `PHA`, code $48 (R222, R85). -/
  | pha
  /-- `PHP`, code $08 (R223, R85). -/
  | php
  /-- `PLA`, code $68 (R224, R85). -/
  | pla
  /-- `PLP`, code $28 (R225, R85). -/
  | plp
  /-- `ROL Operand`, code $26 (R146, R89). -/
  | rolZp (zp : Byte)
  /-- `ROL A`, code $2A (R146, R86). -/
  | rolAcc
  /-- `ROL Operand`, code $2E (R146, R88). -/
  | rolAbs (addr : Addr)
  /-- `ROL Operand,X`, code $36 (R146, R90). -/
  | rolZpx (zp : Byte)
  /-- `ROL Operand,X`, code $3E (R146, R91). -/
  | rolAbsx (addr : Addr)
  /-- `ROR Operand`, code $66 (R147, R89). -/
  | rorZp (zp : Byte)
  /-- `ROR A`, code $6A (R147, R86). -/
  | rorAcc
  /-- `ROR Operand`, code $6E (R147, R88). -/
  | rorAbs (addr : Addr)
  /-- `ROR Operand,X`, code $76 (R147, R90). -/
  | rorZpx (zp : Byte)
  /-- `ROR Operand,X`, code $7E (R147, R91). -/
  | rorAbsx (addr : Addr)
  /-- `RTI`, code $40 (R186, R85). -/
  | rti
  /-- `RTS`, code $60 (R171, R85). -/
  | rts
  /-- `SBC (Operand,X)`, code $E1 (R131, R94). -/
  | sbcIndx (zp : Byte)
  /-- `SBC Operand`, code $E5 (R131, R89). -/
  | sbcZp (zp : Byte)
  /-- `SBC #Operand`, code $E9 (R131, R87). -/
  | sbcImm (imm : Byte)
  /-- `SBC Operand`, code $ED (R131, R88). -/
  | sbcAbs (addr : Addr)
  /-- `SBC (Operand),Y`, code $F1 (R131, R95). -/
  | sbcIndy (zp : Byte)
  /-- `SBC Operand,X`, code $F5 (R131, R90). -/
  | sbcZpx (zp : Byte)
  /-- `SBC Operand,Y`, code $F9 (R131, R92). -/
  | sbcAbsy (addr : Addr)
  /-- `SBC Operand,X`, code $FD (R131, R91). -/
  | sbcAbsx (addr : Addr)
  /-- `SEC`, code $38 (R187, R85). -/
  | sec
  /-- `SED`, code $F8 (R188, R85). -/
  | sed
  /-- `SEI`, code $78 (R189, R85). -/
  | sei
  /-- `STA (Operand,X)`, code $81 (R203, R94). -/
  | staIndx (zp : Byte)
  /-- `STA Operand`, code $85 (R203, R89). -/
  | staZp (zp : Byte)
  /-- `STA Operand`, code $8D (R203, R88). -/
  | staAbs (addr : Addr)
  /-- `STA (Operand),Y`, code $91 (R203, R95). -/
  | staIndy (zp : Byte)
  /-- `STA Operand,X`, code $95 (R203, R90). -/
  | staZpx (zp : Byte)
  /-- `STA Operand,Y`, code $99 (R203, R92). -/
  | staAbsy (addr : Addr)
  /-- `STA Operand,X`, code $9D (R203, R91). -/
  | staAbsx (addr : Addr)
  /-- `STX Operand`, code $86 (R204, R89). -/
  | stxZp (zp : Byte)
  /-- `STX Operand`, code $8E (R204, R88). -/
  | stxAbs (addr : Addr)
  /-- `STX Operand,Y`, code $96 (R204, R90). -/
  | stxZpy (zp : Byte)
  /-- `STY Operand`, code $84 (R205, R89). -/
  | styZp (zp : Byte)
  /-- `STY Operand`, code $8C (R205, R88). -/
  | styAbs (addr : Addr)
  /-- `STY Operand,X`, code $94 (R205, R90). -/
  | styZpx (zp : Byte)
  /-- `TAX`, code $AA (R206, R85). -/
  | tax
  /-- `TAY`, code $A8 (R207, R85). -/
  | tay
  /-- `TSX`, code $BA (R208, R85). -/
  | tsx
  /-- `TXA`, code $8A (R209, R85). -/
  | txa
  /-- `TXS`, code $9A (R210, R85). -/
  | txs
  /-- `TYA`, code $98 (R211, R85). -/
  | tya
deriving DecidableEq, Repr

/-- The 56 instructions (R101). -/
inductive Op where
  /-- Add memory to accumulator with carry (R120). -/
  | adc
  /-- AND memory with the accumulator (R140). -/
  | and
  /-- Shift left one bit (R141). -/
  | asl
  /-- Branch if carry is clear (R161). -/
  | bcc
  /-- Branch if carry is set (R162). -/
  | bcs
  /-- Branch if equal to zero (R163). -/
  | beq
  /-- Bit test (R142). -/
  | bit
  /-- Branch if minus (R164). -/
  | bmi
  /-- Branch if not equal to zero (R165). -/
  | bne
  /-- Branch if positive (R166). -/
  | bpl
  /-- Break command (R180). -/
  | brk
  /-- Branch if overflow is cleared (R167). -/
  | bvc
  /-- Branch if overflow is set (R168). -/
  | bvs
  /-- Clear the carry flag (R181). -/
  | clc
  /-- Clear decimal mode (R182). -/
  | cld
  /-- Clear the interrupt disable bit (R183). -/
  | cli
  /-- Clear the overflow flag (R184). -/
  | clv
  /-- Compare memory and accumulator (R121). -/
  | cmp
  /-- Compare memory and X (R122). -/
  | cpx
  /-- Compare memory and Y (R123). -/
  | cpy
  /-- Decrement memory (R124). -/
  | dec
  /-- Decrement X (R125). -/
  | dex
  /-- Decrement Y (R126). -/
  | dey
  /-- Exclusive or memory with the accumulator (R143). -/
  | eor
  /-- Increment memory (R127). -/
  | inc
  /-- Increment X (R128). -/
  | inx
  /-- Increment Y (R129). -/
  | iny
  /-- Jump (R169). -/
  | jmp
  /-- Jump to subroutine (R170). -/
  | jsr
  /-- Load the accumulator (R200). -/
  | lda
  /-- Load X (R201). -/
  | ldx
  /-- Load Y (R202). -/
  | ldy
  /-- Logic shift right (R144). -/
  | lsr
  /-- No operation (R185). -/
  | nop
  /-- OR memory with the accumulator (R145). -/
  | ora
  /-- Push the accumulator (R222). -/
  | pha
  /-- Push the processor status register (R223). -/
  | php
  /-- Pull the accumulator (R224). -/
  | pla
  /-- Pull the processor status register (R225). -/
  | plp
  /-- Rotate left (R146). -/
  | rol
  /-- Rotate right (R147). -/
  | ror
  /-- Return from interrupt (R186). -/
  | rti
  /-- Return from subroutine (R171). -/
  | rts
  /-- Subtract memory from accumulator with carry (R131). -/
  | sbc
  /-- Set the carry flag (R187). -/
  | sec
  /-- Set decimal mode (R188). -/
  | sed
  /-- Set the interrupt disable bit (R189). -/
  | sei
  /-- Store the accumulator (R203). -/
  | sta
  /-- Store X (R204). -/
  | stx
  /-- Store Y (R205). -/
  | sty
  /-- Transfer the accumulator to X (R206). -/
  | tax
  /-- Transfer the accumulator to Y (R207). -/
  | tay
  /-- Transfer the stack pointer to X (R208). -/
  | tsx
  /-- Transfer X to the accumulator (R209). -/
  | txa
  /-- Transfer X to the stack pointer (R210). -/
  | txs
  /-- Transfer Y to the accumulator (R211). -/
  | tya
deriving DecidableEq, Repr

/-- The 13 addressing modes (R82). -/
inductive Mode where
  /-- No operand (R85). -/
  | implied
  /-- The operand is the accumulator (R86). -/
  | accumulator
  /-- The operand is the second byte (R87). -/
  | immediate
  /-- The operand is at the address in the second and third bytes (R88). -/
  | absolute
  /-- The operand is on page $00 (R89). -/
  | zeroPage
  /-- Page $00, indexed by X (R90). -/
  | zeroPageX
  /-- Page $00, indexed by Y (R90). -/
  | zeroPageY
  /-- Absolute, indexed by X (R91). -/
  | absoluteX
  /-- Absolute, indexed by Y (R92). -/
  | absoluteY
  /-- The address is stored at a pointer; JMP only (R93). -/
  | indirect
  /-- (Indirect,X) (R94). -/
  | indexedIndirect
  /-- (Indirect),Y (R95). -/
  | indirectIndexed
  /-- A displacement from the next instruction; the branches only (R96). -/
  | relative
deriving DecidableEq, Repr

/-- The number of bytes of an instruction: its addressing mode alone gives it (R81, R82). -/
def Mode.length : Mode → Nat
  | .implied | .accumulator => 1
  | .immediate | .zeroPage | .zeroPageX | .zeroPageY | .indexedIndirect | .indirectIndexed | .relative => 2
  | .absolute | .absoluteX | .absoluteY | .indirect => 3

end Sys2Proof
end

