-- ==== Sys2Proof/WellFormed.lean ====
section
/-! DEFINITION. Which instructions and which platforms are well formed. Of an instruction nothing is asked (R104);
of a platform, what the rules need to mean what the source describes (R59, D18, D19). -/

namespace Sys2Proof

open Sys2Proof.Machine

/-- Every value of every operand byte is legal in every mode: no operand value is reserved (R104). -/
def Instr.wellFormed (_ : Instr) : Bool := true

/-- A region of the memory map runs upwards. -/
def Region.wellFormed (r : Region) : Bool := r.first.toNat ≤ r.last.toNat

/-- An address is in a region. -/
def Region.holds (r : Region) (a : Addr) : Bool := r.first.toNat ≤ a.toNat && a.toNat ≤ r.last.toNat

/-- Two regions have no address in common. -/
def Region.disjoint (r q : Region) : Bool := r.last.toNat < q.first.toNat || q.last.toNat < r.first.toNat

/-- Each region runs upwards and no two of them meet. -/
def regionsWellFormed : List Region → Bool
  | [] => true
  | r :: rs => r.wellFormed && rs.all (fun q => r.disjoint q) && regionsWellFormed rs

/-- Pages $00 and $01 hold RAM only (R59, D18). -/
def lowPagesRam (rs : List Region) : Bool :=
  rs.all (fun r => r.kind == .ram || 0x01FF < r.first.toNat)

/-- The six vector bytes are readable: RAM or ROM (R59, D18). -/
def vectorsReadable (rs : List Region) : Bool :=
  rs.all (fun r => r.kind != .unmapped || r.last.toNat < 0xFFFA)

/-- The sixteen addresses of a VIA (R281). -/
def windowDisjoint (b c : Addr) : Bool := b.toNat + 15 < c.toNat || c.toNat + 15 < b.toNat

/-- Each VIA's window ends below the vectors and above the two low pages, and no two windows meet. -/
def windowsWellFormed : List Addr → Bool
  | [] => true
  | b :: bs =>
    decide (0x01FF < b.toNat) && decide (b.toNat + 15 < 0xFFFA) && bs.all (fun c => windowDisjoint b c)
      && windowsWellFormed bs

/-- A platform in which the rules mean what the source describes. -/
def platformWellFormed (cfg : Config) (bases : List Addr) : Bool :=
  regionsWellFormed cfg.map && lowPagesRam cfg.map && vectorsReadable cfg.map && windowsWellFormed bases

end Sys2Proof
end

