-- ==== Sys2Proof/Machine/Ops.lean ====
section
/-! DEFINITION. The named operations over memory, the environment, the bus, the registers and the stack; entering an
interrupt, which BRK, IRQ and NMI share; returning from one; and the reset sequence. -/

namespace Sys2Proof.Machine

/-! ### Memory (R50, R56) -/

/-- What an address reads as when no entry lists it. DESIGN CHOICE (log entry 3), unsafe. -/
def Memory.unlisted : Byte := 0

/-- The canonical form: addresses strictly rising, all in the address space, and no entry equal to what an unlisted
address reads as. -/
abbrev Memory.wf (m : Memory) : Prop :=
  m.Pairwise (fun c d => c.1 < d.1) ∧ ∀ c ∈ m, c.1 < 65536 ∧ c.2 ≠ Memory.unlisted

/-- The byte listed under a key. -/
def Memory.lookup (k : Nat) : Memory → Byte
  | [] => Memory.unlisted
  | c :: m => if c.1 = k then c.2 else Memory.lookup k m

/-- The byte at an address. -/
def Memory.read (m : Memory) (a : Addr) : Byte := Memory.lookup a.toNat m

/-- Put an entry at its place in the rising order. -/
def Memory.insert (k : Nat) (b : Byte) : Memory → Memory
  | [] => [(k, b)]
  | c :: m => if k < c.1 then (k, b) :: c :: m else c :: Memory.insert k b m

/-- Remove the entries of a key. -/
def Memory.erase (k : Nat) (m : Memory) : Memory := m.filter (fun c => c.1 != k)

/-- Store a byte at an address; storing what an unlisted address reads as removes the entry. -/
def Memory.write (m : Memory) (a : Addr) (b : Byte) : Memory :=
  if b = Memory.unlisted then Memory.erase a.toNat m
  else Memory.insert a.toNat b (Memory.erase a.toNat m)

/-- Store bytes at consecutive addresses. -/
def Memory.writeAll : Memory → Addr → List Byte → Memory
  | m, _, [] => m
  | m, a, b :: bs => Memory.writeAll (m.write a b) (a + 1) bs

/-! ### The platform (R59, R60, D18, D19) -/

/-- What answers at an address that no VIA claims. -/
def kindAt (map : List Region) (a : Addr) : RegionKind :=
  match map with
  | [] => .ram
  | r :: rs => if r.holds a then r.kind else kindAt rs a

/-- A VIA register answers at the address. -/
def Io.claims (io : Io) (a : Addr) : Bool := io.vias.any (fun v => (selectReg v.base a).isSome)

/-- The address is RAM: no VIA claims it and the map says so. -/
def State.isRam (s : State) (a : Addr) : Bool := !s.io.claims a && kindAt s.cfg.map a == .ram

/-- The address is RAM or ROM: a read returns the byte stored there and changes nothing (R56). -/
def State.isMemory (s : State) (a : Addr) : Bool := !s.io.claims a && kindAt s.cfg.map a != .unmapped

/-- The IRQ line is low: some VIA or some other device pulls it low (R241, R284). -/
def Io.irqLow (io : Io) : Bool := !io.irqLine || io.vias.any Via.irqActive

/-! ### The environment (R241, R285) -/

/-- Apply a function to the `k`th element of a list, if there is one. -/
def modifyAt {α : Type} (k : Nat) (f : α → α) : List α → List α
  | [] => []
  | x :: xs =>
    match k with
    | 0 => f x :: xs
    | j + 1 => x :: modifyAt j f xs

/-- All VIAs count `n` clock pulses. -/
def Io.tick (n : Nat) (io : Io) : Io := { io with vias := io.vias.map (Via.ticks n) }

/-- Free values have been used. -/
def Io.draw (n : Nat) (io : Io) : Io := { io with draws := io.draws + n }

/-- NMI takes a level: a high-to-low transition sets `nmi_pending` (R245). -/
def Io.nmiLevel (high : Bool) (io : Io) : Io :=
  { io with nmiLine := high, nmiPending := io.nmiPending || (io.nmiLine && !high) }

/-- RES takes a level: once it has been low, the reset sequence is due (R340). DESIGN CHOICE (log entry 23): however short
the low level was, even if no boundary saw it; the spec gives no minimum time (N21). -/
def Io.resLevel (high : Bool) (io : Io) : Io := { io with resLine := high, resetDue := io.resetDue || !high }

/-- What an event from outside does. -/
def Io.event (cfg : Config) (io : Io) (e : EnvEvent) : Io :=
  match e with
  | .irq high => { io with irqLine := high }
  | .nmi high => io.nmiLevel high
  | .res high => io.resLevel high
  | .clock n =>
    match cfg.viaTime with
    | .free => io.tick n
    | .cycles => io
  | .via k ev =>
    { io with vias := modifyAt k (Via.event cfg.shiftDir io.draws ev) io.vias }.draw viaDraws

/-- The environment acts: the events of the first entry of its script happen, in their order. -/
def Io.move (cfg : Config) (io : Io) : Io :=
  match io.env with
  | [] => io
  | es :: rest => es.foldl (Io.event cfg) { io with env := rest }

/-- Just before an access to a VIA register the environment acts; under `VIA_TIME` = `cycles` the access samples the
VIAs at an open point of the step (R285), so a free part of the step's clock cycles passes first. -/
def Io.settle (cfg : Config) (io : Io) : Io :=
  let io1 := io.move cfg
  match cfg.viaTime with
  | .free => io1
  | .cycles =>
    let n := Config.anyCount io1.draws % (io1.owed + 1)
    ({ io1 with owed := io1.owed - n }.tick n).draw 1

/-! ### The bus (R56, R57): one access moves one byte -/

/-- A read of the register an address selects, at the first VIA that claims it. -/
def viasRead (a : Addr) (d : Nat) : List Via → Byte × List Via
  | [] => (Config.anyByte d, [])
  | v :: vs =>
    match selectReg v.base a with
    | some r => (v.readValue r d, v.readEffect r d :: vs)
    | none => ((viasRead a d vs).1, v :: (viasRead a d vs).2)

/-- A write of the register an address selects, at the first VIA that claims it. -/
def viasWrite (a : Addr) (b : Byte) (d : Nat) : List Via → List Via
  | [] => []
  | v :: vs =>
    match selectReg v.base a with
    | some r => v.write r b d :: vs
    | none => v :: viasWrite a b d vs

/-- The lines and devices after a read at an address a VIA claims, and the byte read. -/
def Io.readReg (cfg : Config) (a : Addr) (io : Io) : Byte × Io :=
  let io1 := io.settle cfg
  let r := viasRead a io1.draws io1.vias
  (r.1, { io1 with vias := r.2 }.draw viaDraws)

/-- The lines and devices after a write at an address a VIA claims. -/
def Io.writeReg (cfg : Config) (a : Addr) (b : Byte) (io : Io) : Io :=
  let io1 := io.settle cfg
  { io1 with vias := viasWrite a b io1.draws io1.vias }.draw viaDraws

/-- `MemRead(a, 1)` (R10, R56): the byte read, and the state after the read. RAM and ROM return the stored byte and
change nothing; a VIA register answers with its side effects; an address with nothing attached gives a free byte
(R60). -/
def busRead (s : State) (a : Addr) : Byte × State :=
  if s.io.claims a then
    let r := s.io.readReg s.cfg a
    (r.1, { s with io := r.2 })
  else
    match kindAt s.cfg.map a with
    | .ram | .rom => (s.mem.read a, s)
    | .unmapped => (Config.anyByte s.io.draws, { s with io := s.io.draw 1 })

/-- `MemWrite(a, 1, b)` (R10, R56): RAM takes the byte; a VIA register takes it with its side effects; ROM and an
address with nothing attached ignore it (R60, D18). -/
def busWrite (s : State) (a : Addr) (b : Byte) : State :=
  if s.io.claims a then { s with io := s.io.writeReg s.cfg a b }
  else
    match kindAt s.cfg.map a with
    | .ram => { s with mem := s.mem.write a b }
    | .rom | .unmapped => s

/-- The bytes at two addresses as an address, the low-order byte read first (R53). -/
def busReadPair (s : State) (lo hi : Addr) : Addr × State :=
  let l := busRead s lo
  let h := busRead l.2 hi
  (mkAddr h.1 l.1, h.2)

/-- A free byte, and the state that has used it. -/
def freeByte (s : State) : Byte × State := (Config.anyByte s.io.draws, { s with io := s.io.draw 1 })

/-! ### Accesses that no rule lists (R57, R354, U15) -/

/-- One access of an address beyond those the rules list: a read, or, where a write may happen, a free bit decides between
a read and a write of a free byte. -/
def unlistedAccess (mayWrite : Bool) (a : Addr) (s : State) : State :=
  let s1 := { s with io := s.io.draw 1 }
  if mayWrite && Config.anyBit s.io.draws then busWrite s1 a (Config.anyByte s.io.draws) else (busRead s1 a).2

/-- `n` such accesses, one after the other. -/
def repeatAccess (mayWrite : Bool) (a : Addr) : Nat → State → State
  | 0, s => s
  | n + 1, s => repeatAccess mayWrite a n (unlistedAccess mayWrite a s)

/-- What an indexed or read-modify-write instruction may do besides its listed accesses where it touches a register of
a VIA: a free number of further accesses of that register, none being one of the possibilities. R57 asks that a model
treat such an access as unspecified; elsewhere nothing could see them. DESIGN CHOICE (log entry 18): which accesses
these may be. -/
def unlistedAccesses (mayWrite : Bool) (a : Addr) (s : State) : State :=
  if s.io.claims a then repeatAccess mayWrite a (Config.anyCount s.io.draws) { s with io := s.io.draw 1 } else s

/-! ### The program counter -/

/-- `pc <- (pc + len) mod 65536` (R24, D2). -/
def State.advance (len : Nat) (s : State) : State := { s with pc := s.pc + BitVec.ofNat 16 len }

/-! ### The stack (R220, R221) -/

/-- `push` (R220): write at `$0100 + SP`, then decrement `SP` modulo 256. -/
def push (b : Byte) (s : State) : State :=
  { busWrite s (stackAddr s.sp) b with sp := s.sp - 1 }

/-- `pull` (R221): increment `SP` modulo 256, then read at `$0100 + SP`. -/
def pull (s : State) : Byte × State := busRead { s with sp := s.sp + 1 } (stackAddr (s.sp + 1))

/-- The two addresses that pushing an address writes. -/
def callAddrs (sp : Byte) : List Addr := [stackAddr sp, stackAddr (sp - 1)]

/-- The three addresses that pushing an address and `P` writes. -/
def frameAddrs (sp : Byte) : List Addr := [stackAddr sp, stackAddr (sp - 1), stackAddr (sp - 2)]

/-- One of the addresses pushed to holds one of the `len` bytes of the instruction at the program counter (R351). -/
def landsOnItself (pushed : List Addr) (len : Nat) (s : State) : Bool :=
  pushed.any fun a => decide ((a - s.pc).toNat < len)

/-- What an instruction that pushes answers: refused when it pushes onto its own bytes (R351, D14, U11), for the spec
does not say whether they are read before or after; its next state otherwise. -/
def unlessOntoItself (pushed : List Addr) (len : Nat) (s next : State) : Outcome :=
  if landsOnItself pushed len s then .refused (.ontoItself s.pc) else .next next

/-- Push an address, high-order byte first (R170, R180, R247). -/
def pushAddr (a : Addr) (s : State) : State := push (loByte a) (push (hiByte a) s)

/-- Pull an address, low-order byte first (R171, R186). -/
def pullAddr (s : State) : Addr × State :=
  let l := pull s
  let h := pull l.2
  (mkAddr h.1 l.1, h.2)

/-- Bit 4 of a pushed `P` (R255): 1 for BRK; else the break flag, or a free bit where it has no storage. -/
def pushedBreak (s : State) (brk : Bool) : Bool :=
  brk ||
    match s.cfg.bModel with
    | .latch => s.p.b
    | .free => Config.anyBit (s.io.draws + 1)

/-- The byte a push of `P` writes: bit 5 is a free bit (R34), bit 4 as R255 says, the other bits the flags (R26). -/
def statusByte (s : State) (brk : Bool) : Byte :=
  s.p.pack (Config.anyBit s.io.draws) (pushedBreak s brk)

/-- `push(P)`. -/
def pushStatus (brk : Bool) (s : State) : State :=
  push (statusByte s brk) { s with io := s.io.draw 2 }

/-- Pull `P` (R186, R225): every flag from the pulled byte, as R255 says of `B`. -/
def pullStatus (s : State) : State :=
  let r := pull s
  { r.2 with p := r.2.p.unpack r.2.cfg.bModel r.1 }

/-! ### Interrupts (R180, R247, R248) and reset (R340) -/

/-- The vector of NMI (R256). -/
def nmiVector : Addr := 0xFFFA

/-- The vector of reset (R256). -/
def resetVector : Addr := 0xFFFC

/-- The vector of IRQ and BRK (R256). -/
def irqVector : Addr := 0xFFFE

/-- `pc` from the two bytes of a vector, low-order byte first (R52, D14). -/
def jumpThrough (vector : Addr) (s : State) : State :=
  let r := busReadPair s vector (vector + 1)
  { r.2 with pc := r.1 }

/-- `B <- 1`, where `B` has storage (R255). -/
def setBreak (s : State) : State := { s with p := s.p.setBreak s.cfg.bModel }

/-- Entering an interrupt: BRK, IRQ and NMI share it. BRK sets `B` before `P` is pushed, the two lines after; the return
address and `P` are pushed, `I` is set after the push, and the vector gives the new `pc`. The flags N, V, D, Z, C and
the registers A, X, Y stay (R180, R247, R248, D22). -/
def enterInterrupt (brk : Bool) (ret vector : Addr) (s : State) : State :=
  let s1 := if brk then setBreak s else s
  let s2 := pushStatus brk (pushAddr ret s1)
  let s3 := if brk then s2 else setBreak s2
  jumpThrough vector { s3 with p := { s3.p with i := true } }

/-- The IRQ sequence (R247). -/
def irqSequence (s : State) : State := enterInterrupt false s.pc irqVector s

/-- The NMI sequence (R248): it also clears the latch. -/
def nmiSequence (s : State) : State :=
  enterInterrupt false s.pc nmiVector { s with io := { s.io with nmiPending := false } }

/-- Return from an interrupt (R186, R250): `P`, then the program counter, are pulled; nothing is added to it. -/
def returnFromInterrupt (s : State) : State :=
  let r := pullAddr (pullStatus s)
  { r.2 with pc := r.1 }

/-- Every VIA is reset, each with free values of its own (R283, D27). -/
def resetVias (d : Nat) : List Via → List Via
  | [] => []
  | v :: vs => v.reset d :: resetVias (d + viaDraws) vs

/-- The lines and devices when RES has gone high: no NMI is pending and every VIA is reset (R340, D27). -/
def Io.afterReset (io : Io) : Io :=
  { io with
    nmiPending := false, resetDue := false
    vias := resetVias (io.draws + viaDraws) io.vias
    draws := io.draws + viaDraws * (io.vias.length + 1) }

/-- The reset sequence (R340): `I` is set and `pc` comes from the vector; every other register and flag is a free
value (R42, D11); nothing is pushed and memory is as it was (D25). -/
def resetSequence (s : State) : State :=
  let d := s.io.draws
  jumpThrough resetVector
    { s with
      a := Config.anyByte d, x := Config.anyByte (d + 1), y := Config.anyByte (d + 2), sp := Config.anyByte (d + 3)
      p := { n := Config.anyBit d, v := Config.anyBit (d + 1), b := Config.anyBit (d + 2)
             d := Config.anyBit (d + 3), i := true, z := Config.anyBit (d + 4), c := Config.anyBit (d + 5) }
      io := s.io.afterReset }

/-- The machine right after reset on a platform of one's own: the parameters, the base addresses of the VIAs and the
contents of ROM and RAM in place of those of `State.reset` (R8, R42, D25). -/
def resetOn (cfg : Config) (bases : List Addr) (mem : Memory) : State :=
  { State.reset with
    cfg := cfg, mem := mem, io := Io.atReset (bases.map Via.atReset)
    pc := mkAddr (mem.read (resetVector + 1)) (mem.read resetVector) }

end Sys2Proof.Machine
end

