-- ==== Sys2Proof/Machine/Operands.lean ====
section
/-! DEFINITION. Every operand form of the instruction set: the effective address of each addressing mode (R85 to R96),
the operand read through it (R83), and the read-modify-write form (R57). An indexed or read-modify-write access that
touches a register of a VIA is treated as unspecified, as R57 asks: further accesses of that register may come before
it (log entry 18). -/

namespace Sys2Proof.Machine

/-- An operand in memory, by the addressing mode that gives its effective address. -/
inductive Place where
  /-- Zero page (R89). -/
  | zp (zp : Byte)
  /-- Zero page,X (R90). -/
  | zpx (zp : Byte)
  /-- Zero page,Y (R90). -/
  | zpy (zp : Byte)
  /-- Absolute (R88). -/
  | abs (addr : Addr)
  /-- Absolute,X (R91). -/
  | absx (addr : Addr)
  /-- Absolute,Y (R92). -/
  | absy (addr : Addr)
  /-- (Indirect,X) (R94). -/
  | indx (zp : Byte)
  /-- (Indirect),Y (R95). -/
  | indy (zp : Byte)
deriving DecidableEq, Repr

/-- An operand that is read: the second byte of the instruction, or a place in memory. -/
inductive Operand where
  /-- Immediate (R87). -/
  | imm (b : Byte)
  /-- In memory. -/
  | mem (p : Place)
deriving DecidableEq, Repr

/-- An operand that is read and written back: the accumulator, or a place in memory. -/
inductive Target where
  /-- Accumulator (R86). -/
  | acc
  /-- In memory. -/
  | mem (p : Place)
deriving DecidableEq, Repr

/-- The number of bytes of an instruction with the operand (R82). -/
def Place.length : Place → Nat
  | .zp _ | .zpx _ | .zpy _ | .indx _ | .indy _ => 2
  | .abs _ | .absx _ | .absy _ => 3

/-- The number of bytes of an instruction with the operand (R82). -/
def Operand.length : Operand → Nat
  | .imm _ => 2
  | .mem p => p.length

/-- The number of bytes of an instruction with the operand (R82). -/
def Target.length : Target → Nat
  | .acc => 1
  | .mem p => p.length

/-- The address stored at a pointer on page $00: both its bytes are on page $00, so that a pointer at $FF has its
high-order byte at $0000 (R94, R95, D4). -/
def readPointer (s : State) (zp : Byte) : Addr × State := busReadPair s (zext zp) (zext (zp + 1))

/-- An address with the high-order byte of another: an indexed address whose page is not yet corrected. -/
def uncorrected (base ea : Addr) : Addr := mkAddr (hiByte base) (loByte ea)

/-- An indexed effective address, formed from a base: where it, or the address before its page is corrected, is a
register of a VIA, reads that no rule lists may come first (R57, log entry 18). -/
def indexed (base ea : Addr) (s : State) : Addr × State :=
  (ea, unlistedAccesses false ea (unlistedAccesses false (uncorrected base ea) s))

/-- The effective address, and the state after the reads that form it. Sums on page $00 are taken modulo 256 (R90,
R94), the others modulo 65536 (R91, R92, R95, D3). -/
def Place.ea (p : Place) (s : State) : Addr × State :=
  match p with
  | .zp b => (zext b, s)
  | .zpx b => indexed (zext b) (zext (b + s.x)) s
  | .zpy b => indexed (zext b) (zext (b + s.y)) s
  | .abs addr => (addr, s)
  | .absx addr => indexed addr (addr + zext s.x) s
  | .absy addr => indexed addr (addr + zext s.y) s
  | .indx b =>
    let r := readPointer s (b + s.x)
    indexed r.1 r.1 r.2
  | .indy b =>
    let r := readPointer s b
    indexed r.1 (r.1 + zext s.y) r.2

/-- `M`, and the state after it is read (R83): the pointer bytes first, then the operand (R57). -/
def Operand.read (o : Operand) (s : State) : Byte × State :=
  match o with
  | .imm b => (b, s)
  | .mem p => busRead (p.ea s).2 (p.ea s).1

/-- Store a byte at a place: no rule has it read (R57, R83). -/
def Place.store (p : Place) (b : Byte) (s : State) : State := busWrite (p.ea s).2 (p.ea s).1 b

/-- The operand of a read-modify-write instruction, and the state after it is read. -/
def Target.read (t : Target) (s : State) : Byte × State :=
  match t with
  | .acc => (s.a, s)
  | .mem p => busRead (p.ea s).2 (p.ea s).1

/-- Read an operand and write back what `f` makes of it and of the flags: one read, then one write at the same
address (R57, R83). Between the two, at a register of a VIA, accesses of it that no rule lists may happen (R57, log entry
18). -/
def Target.modify (t : Target) (f : Flags → Byte → Byte × Flags) (s : State) : State :=
  match t with
  | .acc => { s with a := (f s.p s.a).1, p := (f s.p s.a).2 }
  | .mem p =>
    let e := p.ea s
    let r := busRead e.2 e.1
    let out := f r.2.p r.1
    { busWrite (unlistedAccesses true e.1 r.2) e.1 out.1 with p := out.2 }

/-- The target of JMP (indirect): both bytes from the pointer, low-order first; where the high-order byte stands when
the pointer's low byte is `$FF` is the parameter `JMP_IND_WRAP` (R93, D5). -/
def readJumpTarget (ptr : Addr) (s : State) : Addr × State :=
  if loByte ptr = 0xFF then
    match s.cfg.jmpIndWrap with
    | .next => busReadPair s ptr (ptr + 1)
    | .samePage => busReadPair s ptr (mkAddr (hiByte ptr) 0x00)
    | .free =>
      let l := busRead s ptr
      let h := freeByte l.2
      (mkAddr h.1 l.1, h.2)
  else busReadPair s ptr (ptr + 1)

end Sys2Proof.Machine
end

