-- ==== Sys2Proof/Machine/Arithmetic.lean ====
section
/-! DEFINITION. Arithmetic, compare, increment and decrement (R119 to R133).
Each instruction has a meaning of its own over the shared operations of Ops.lean, Operands.lean and Flags.lean. -/

namespace Sys2Proof.Machine

/-- A result of ADC or SBC goes to the accumulator and to N, V, Z and C. -/
def putAlu (r : AluResult) (s : State) : State := { s with a := r.r, p := s.p.setAlu r }

/-- Past a decimal sum or difference: its free values have been used (R130). -/
def drawDecimal (s : State) : State := if s.p.d then { s with io := s.io.draw 4 } else s

/-- ADC (R120, R130): the operand and the carry are added to the accumulator. -/
def adc (o : Operand) (s : State) : State :=
  let m := o.read s
  (putAlu (addWithCarry s.p s.a m.1 m.2.io.draws) (drawDecimal m.2)).advance o.length

/-- SBC (R131, R130): the operand and the complement of the carry are subtracted from the accumulator. -/
def sbc (o : Operand) (s : State) : State :=
  let m := o.read s
  (putAlu (subWithCarry s.p s.a m.1 m.2.io.draws) (drawDecimal m.2)).advance o.length

/-- A comparison writes N, Z and C only (R121, R122, R123). -/
def compareWith (reg : Byte) (o : Operand) (s : State) : State :=
  let m := o.read s
  { m.2 with p := s.p.compare reg m.1 }.advance o.length

/-- CMP (R121). -/
def cmp (o : Operand) (s : State) : State := compareWith s.a o s

/-- CPX (R122). -/
def cpx (o : Operand) (s : State) : State := compareWith s.x o s

/-- CPY (R123). -/
def cpy (o : Operand) (s : State) : State := compareWith s.y o s

/-- A read-modify-write by adding a constant: N and Z of the result (R124, R127). -/
def addToMemory (k : Byte) (p : Place) (s : State) : State :=
  ((Target.mem p).modify (fun f m => (m + k, f.setNZ (m + k))) s).advance p.length

/-- INC (R127). -/
def incMem (p : Place) (s : State) : State := addToMemory 1 p s

/-- DEC (R124). -/
def decMem (p : Place) (s : State) : State := addToMemory (-1) p s

/-- INX and DEX: X moves by `k` modulo 256, N and Z of the result (R125, R128). -/
def stepX (k : Byte) (s : State) : State := { s with x := s.x + k, p := s.p.setNZ (s.x + k) }.advance 1

/-- INY and DEY: Y moves by `k` modulo 256, N and Z of the result (R126, R129). -/
def stepY (k : Byte) (s : State) : State := { s with y := s.y + k, p := s.p.setNZ (s.y + k) }.advance 1

/-- `ADC (Operand,X)` (R120, R94). -/
def execAdcIndx (zp : Byte) (s : State) : Outcome := .next (adc (.mem (.indx zp)) s)

/-- `ADC Operand` (R120, R89). -/
def execAdcZp (zp : Byte) (s : State) : Outcome := .next (adc (.mem (.zp zp)) s)

/-- `ADC #Operand` (R120, R87). -/
def execAdcImm (imm : Byte) (s : State) : Outcome := .next (adc (.imm imm) s)

/-- `ADC Operand` (R120, R88). -/
def execAdcAbs (addr : Addr) (s : State) : Outcome := .next (adc (.mem (.abs addr)) s)

/-- `ADC (Operand),Y` (R120, R95). -/
def execAdcIndy (zp : Byte) (s : State) : Outcome := .next (adc (.mem (.indy zp)) s)

/-- `ADC Operand,X` (R120, R90). -/
def execAdcZpx (zp : Byte) (s : State) : Outcome := .next (adc (.mem (.zpx zp)) s)

/-- `ADC Operand,Y` (R120, R92). -/
def execAdcAbsy (addr : Addr) (s : State) : Outcome := .next (adc (.mem (.absy addr)) s)

/-- `ADC Operand,X` (R120, R91). -/
def execAdcAbsx (addr : Addr) (s : State) : Outcome := .next (adc (.mem (.absx addr)) s)

/-- `SBC (Operand,X)` (R131, R94). -/
def execSbcIndx (zp : Byte) (s : State) : Outcome := .next (sbc (.mem (.indx zp)) s)

/-- `SBC Operand` (R131, R89). -/
def execSbcZp (zp : Byte) (s : State) : Outcome := .next (sbc (.mem (.zp zp)) s)

/-- `SBC #Operand` (R131, R87). -/
def execSbcImm (imm : Byte) (s : State) : Outcome := .next (sbc (.imm imm) s)

/-- `SBC Operand` (R131, R88). -/
def execSbcAbs (addr : Addr) (s : State) : Outcome := .next (sbc (.mem (.abs addr)) s)

/-- `SBC (Operand),Y` (R131, R95). -/
def execSbcIndy (zp : Byte) (s : State) : Outcome := .next (sbc (.mem (.indy zp)) s)

/-- `SBC Operand,X` (R131, R90). -/
def execSbcZpx (zp : Byte) (s : State) : Outcome := .next (sbc (.mem (.zpx zp)) s)

/-- `SBC Operand,Y` (R131, R92). -/
def execSbcAbsy (addr : Addr) (s : State) : Outcome := .next (sbc (.mem (.absy addr)) s)

/-- `SBC Operand,X` (R131, R91). -/
def execSbcAbsx (addr : Addr) (s : State) : Outcome := .next (sbc (.mem (.absx addr)) s)

/-- `CMP (Operand,X)` (R121, R94). -/
def execCmpIndx (zp : Byte) (s : State) : Outcome := .next (cmp (.mem (.indx zp)) s)

/-- `CMP Operand` (R121, R89). -/
def execCmpZp (zp : Byte) (s : State) : Outcome := .next (cmp (.mem (.zp zp)) s)

/-- `CMP #Operand` (R121, R87). -/
def execCmpImm (imm : Byte) (s : State) : Outcome := .next (cmp (.imm imm) s)

/-- `CMP Operand` (R121, R88). -/
def execCmpAbs (addr : Addr) (s : State) : Outcome := .next (cmp (.mem (.abs addr)) s)

/-- `CMP (Operand),Y` (R121, R95). -/
def execCmpIndy (zp : Byte) (s : State) : Outcome := .next (cmp (.mem (.indy zp)) s)

/-- `CMP Operand,X` (R121, R90). -/
def execCmpZpx (zp : Byte) (s : State) : Outcome := .next (cmp (.mem (.zpx zp)) s)

/-- `CMP Operand,Y` (R121, R92). -/
def execCmpAbsy (addr : Addr) (s : State) : Outcome := .next (cmp (.mem (.absy addr)) s)

/-- `CMP Operand,X` (R121, R91). -/
def execCmpAbsx (addr : Addr) (s : State) : Outcome := .next (cmp (.mem (.absx addr)) s)

/-- `CPX #Operand` (R122, R87). -/
def execCpxImm (imm : Byte) (s : State) : Outcome := .next (cpx (.imm imm) s)

/-- `CPX Operand` (R122, R89). -/
def execCpxZp (zp : Byte) (s : State) : Outcome := .next (cpx (.mem (.zp zp)) s)

/-- `CPX Operand` (R122, R88). -/
def execCpxAbs (addr : Addr) (s : State) : Outcome := .next (cpx (.mem (.abs addr)) s)

/-- `CPY #Operand` (R123, R87). -/
def execCpyImm (imm : Byte) (s : State) : Outcome := .next (cpy (.imm imm) s)

/-- `CPY Operand` (R123, R89). -/
def execCpyZp (zp : Byte) (s : State) : Outcome := .next (cpy (.mem (.zp zp)) s)

/-- `CPY Operand` (R123, R88). -/
def execCpyAbs (addr : Addr) (s : State) : Outcome := .next (cpy (.mem (.abs addr)) s)

/-- `INC Operand` (R127, R89). -/
def execIncZp (zp : Byte) (s : State) : Outcome := .next (incMem (.zp zp) s)

/-- `INC Operand` (R127, R88). -/
def execIncAbs (addr : Addr) (s : State) : Outcome := .next (incMem (.abs addr) s)

/-- `INC Operand,X` (R127, R90). -/
def execIncZpx (zp : Byte) (s : State) : Outcome := .next (incMem (.zpx zp) s)

/-- `INC Operand,X` (R127, R91). -/
def execIncAbsx (addr : Addr) (s : State) : Outcome := .next (incMem (.absx addr) s)

/-- `DEC Operand` (R124, R89). -/
def execDecZp (zp : Byte) (s : State) : Outcome := .next (decMem (.zp zp) s)

/-- `DEC Operand` (R124, R88). -/
def execDecAbs (addr : Addr) (s : State) : Outcome := .next (decMem (.abs addr) s)

/-- `DEC Operand,X` (R124, R90). -/
def execDecZpx (zp : Byte) (s : State) : Outcome := .next (decMem (.zpx zp) s)

/-- `DEC Operand,X` (R124, R91). -/
def execDecAbsx (addr : Addr) (s : State) : Outcome := .next (decMem (.absx addr) s)

/-- `INX` (R128, R85). -/
def execInx (s : State) : Outcome := .next (stepX 1 s)

/-- `INY` (R129, R85). -/
def execIny (s : State) : Outcome := .next (stepY 1 s)

/-- `DEX` (R125, R85). -/
def execDex (s : State) : Outcome := .next (stepX (-1) s)

/-- `DEY` (R126, R85). -/
def execDey (s : State) : Outcome := .next (stepY (-1) s)

end Sys2Proof.Machine
end

