-- ==== Sys2Proof/Machine/BranchJump.lean ====
section
/-! DEFINITION. Branch, jump and subroutine (R160 to R173).
Each instruction has a meaning of its own over the shared operations of Ops.lean, Operands.lean and Flags.lean. -/

namespace Sys2Proof.Machine

/-- A conditional branch (R172): taken, the displacement is added to the address of the next instruction. -/
def branch (taken : Bool) (disp : Byte) (s : State) : State :=
  if taken then { s with pc := s.pc + 2 + sext disp } else s.advance 2

/-- A jump (R169): the program counter is loaded. -/
def jump (target : Addr × State) : State := { target.2 with pc := target.1 }

/-- JSR (R170): the address of its last byte is pushed, high-order byte first, and its operand is the new program
counter. -/
def callSubroutine (addr : Addr) (s : State) : State := { pushAddr (s.pc + 2) s with pc := addr }

/-- RTS (R171): the pulled address plus 1. -/
def returnFromSubroutine (s : State) : State :=
  let r := pullAddr s
  { r.2 with pc := r.1 + 1 }

/-- `BCC Operand` (R161, R96). -/
def execBcc (disp : Byte) (s : State) : Outcome := .next (branch (!s.p.c) disp s)

/-- `BCS Operand` (R162, R96). -/
def execBcs (disp : Byte) (s : State) : Outcome := .next (branch s.p.c disp s)

/-- `BEQ Operand` (R163, R96). -/
def execBeq (disp : Byte) (s : State) : Outcome := .next (branch s.p.z disp s)

/-- `BMI Operand` (R164, R96). -/
def execBmi (disp : Byte) (s : State) : Outcome := .next (branch s.p.n disp s)

/-- `BNE Operand` (R165, R96). -/
def execBne (disp : Byte) (s : State) : Outcome := .next (branch (!s.p.z) disp s)

/-- `BPL Operand` (R166, R96). -/
def execBpl (disp : Byte) (s : State) : Outcome := .next (branch (!s.p.n) disp s)

/-- `BVC Operand` (R167, R96). -/
def execBvc (disp : Byte) (s : State) : Outcome := .next (branch (!s.p.v) disp s)

/-- `BVS Operand` (R168, R96). -/
def execBvs (disp : Byte) (s : State) : Outcome := .next (branch s.p.v disp s)

/-- `JMP Operand` (R169, R88). -/
def execJmpAbs (addr : Addr) (s : State) : Outcome := .next (jump (addr, s))

/-- `JMP (Operand)` (R169, R93). -/
def execJmpInd (addr : Addr) (s : State) : Outcome := .next (jump (readJumpTarget addr s))

/-- `JSR Operand` (R170, R351, R88). -/
def execJsr (addr : Addr) (s : State) : Outcome :=
  unlessOntoItself (callAddrs s.sp) 3 s (callSubroutine addr s)

/-- `RTS` (R171, R85). -/
def execRts (s : State) : Outcome := .next (returnFromSubroutine s)

end Sys2Proof.Machine
end

