-- ==== Sys2Proof/Machine/FlagsSystem.lean ====
section
/-! DEFINITION. Flag instructions, break, return from interrupt, no operation (R179 to R191).
Each instruction has a meaning of its own over the shared operations of Ops.lean, Operands.lean and Flags.lean. -/

namespace Sys2Proof.Machine

/-- A flag instruction (R179): the flags given, nothing else, one byte. -/
def setFlags (f : Flags) (s : State) : State := { s with p := f }.advance 1

/-- `CLC` (R181, R85). -/
def execClc (s : State) : Outcome := .next (setFlags { s.p with c := false } s)

/-- `SEC` (R187, R85). -/
def execSec (s : State) : Outcome := .next (setFlags { s.p with c := true } s)

/-- `CLD` (R182, R85). -/
def execCld (s : State) : Outcome := .next (setFlags { s.p with d := false } s)

/-- `SED` (R188, R85). -/
def execSed (s : State) : Outcome := .next (setFlags { s.p with d := true } s)

/-- `CLI` (R183, R85). -/
def execCli (s : State) : Outcome := .next (setFlags { s.p with i := false } s)

/-- `SEI` (R189, R85). -/
def execSei (s : State) : Outcome := .next (setFlags { s.p with i := true } s)

/-- `CLV` (R184, R85). -/
def execClv (s : State) : Outcome := .next (setFlags { s.p with v := false } s)

/-- `NOP` (R185, R85). -/
def execNop (s : State) : Outcome := .next (s.advance 1)

/-- `BRK` (R180, R351, R85). -/
def execBrk (s : State) : Outcome :=
  unlessOntoItself (frameAddrs s.sp) 1 s (enterInterrupt true (s.pc + 2) irqVector s)

/-- `RTI` (R186, R85). -/
def execRti (s : State) : Outcome := .next (returnFromInterrupt s)

end Sys2Proof.Machine
end

