-- ==== Sys2Proof/Machine/LoadStore.lean ====
section
/-! DEFINITION. Load, store and register transfer (R199 to R213).
Each instruction has a meaning of its own over the shared operations of Ops.lean, Operands.lean and Flags.lean. -/

namespace Sys2Proof.Machine

/-- LDA (R200). -/
def lda (o : Operand) (s : State) : State :=
  let m := o.read s
  { m.2 with a := m.1, p := s.p.setNZ m.1 }.advance o.length

/-- LDX (R201). -/
def ldx (o : Operand) (s : State) : State :=
  let m := o.read s
  { m.2 with x := m.1, p := s.p.setNZ m.1 }.advance o.length

/-- LDY (R202). -/
def ldy (o : Operand) (s : State) : State :=
  let m := o.read s
  { m.2 with y := m.1, p := s.p.setNZ m.1 }.advance o.length

/-- STA (R203). -/
def sta (p : Place) (s : State) : State := (p.store s.a s).advance p.length

/-- STX (R204). -/
def stx (p : Place) (s : State) : State := (p.store s.x s).advance p.length

/-- STY (R205). -/
def sty (p : Place) (s : State) : State := (p.store s.y s).advance p.length

/-- A transfer to the accumulator: N and Z of the byte moved (R209, R211). -/
def moveA (b : Byte) (s : State) : State := { s with a := b, p := s.p.setNZ b }.advance 1

/-- A transfer to X: N and Z of the byte moved (R206, R208). -/
def moveX (b : Byte) (s : State) : State := { s with x := b, p := s.p.setNZ b }.advance 1

/-- A transfer to Y: N and Z of the byte moved (R207). -/
def moveY (b : Byte) (s : State) : State := { s with y := b, p := s.p.setNZ b }.advance 1

/-- `LDA (Operand,X)` (R200, R94). -/
def execLdaIndx (zp : Byte) (s : State) : Outcome := .next (lda (.mem (.indx zp)) s)

/-- `LDA Operand` (R200, R89). -/
def execLdaZp (zp : Byte) (s : State) : Outcome := .next (lda (.mem (.zp zp)) s)

/-- `LDA #Operand` (R200, R87). -/
def execLdaImm (imm : Byte) (s : State) : Outcome := .next (lda (.imm imm) s)

/-- `LDA Operand` (R200, R88). -/
def execLdaAbs (addr : Addr) (s : State) : Outcome := .next (lda (.mem (.abs addr)) s)

/-- `LDA (Operand),Y` (R200, R95). -/
def execLdaIndy (zp : Byte) (s : State) : Outcome := .next (lda (.mem (.indy zp)) s)

/-- `LDA Operand,X` (R200, R90). -/
def execLdaZpx (zp : Byte) (s : State) : Outcome := .next (lda (.mem (.zpx zp)) s)

/-- `LDA Operand,Y` (R200, R92). -/
def execLdaAbsy (addr : Addr) (s : State) : Outcome := .next (lda (.mem (.absy addr)) s)

/-- `LDA Operand,X` (R200, R91). -/
def execLdaAbsx (addr : Addr) (s : State) : Outcome := .next (lda (.mem (.absx addr)) s)

/-- `LDX #Operand` (R201, R87). -/
def execLdxImm (imm : Byte) (s : State) : Outcome := .next (ldx (.imm imm) s)

/-- `LDX Operand` (R201, R89). -/
def execLdxZp (zp : Byte) (s : State) : Outcome := .next (ldx (.mem (.zp zp)) s)

/-- `LDX Operand` (R201, R88). -/
def execLdxAbs (addr : Addr) (s : State) : Outcome := .next (ldx (.mem (.abs addr)) s)

/-- `LDX Operand,Y` (R201, R90). -/
def execLdxZpy (zp : Byte) (s : State) : Outcome := .next (ldx (.mem (.zpy zp)) s)

/-- `LDX Operand,Y` (R201, R92). -/
def execLdxAbsy (addr : Addr) (s : State) : Outcome := .next (ldx (.mem (.absy addr)) s)

/-- `LDY #Operand` (R202, R87). -/
def execLdyImm (imm : Byte) (s : State) : Outcome := .next (ldy (.imm imm) s)

/-- `LDY Operand` (R202, R89). -/
def execLdyZp (zp : Byte) (s : State) : Outcome := .next (ldy (.mem (.zp zp)) s)

/-- `LDY Operand` (R202, R88). -/
def execLdyAbs (addr : Addr) (s : State) : Outcome := .next (ldy (.mem (.abs addr)) s)

/-- `LDY Operand,X` (R202, R90). -/
def execLdyZpx (zp : Byte) (s : State) : Outcome := .next (ldy (.mem (.zpx zp)) s)

/-- `LDY Operand,X` (R202, R91). -/
def execLdyAbsx (addr : Addr) (s : State) : Outcome := .next (ldy (.mem (.absx addr)) s)

/-- `STA (Operand,X)` (R203, R94). -/
def execStaIndx (zp : Byte) (s : State) : Outcome := .next (sta (.indx zp) s)

/-- `STA Operand` (R203, R89). -/
def execStaZp (zp : Byte) (s : State) : Outcome := .next (sta (.zp zp) s)

/-- `STA Operand` (R203, R88). -/
def execStaAbs (addr : Addr) (s : State) : Outcome := .next (sta (.abs addr) s)

/-- `STA (Operand),Y` (R203, R95). -/
def execStaIndy (zp : Byte) (s : State) : Outcome := .next (sta (.indy zp) s)

/-- `STA Operand,X` (R203, R90). -/
def execStaZpx (zp : Byte) (s : State) : Outcome := .next (sta (.zpx zp) s)

/-- `STA Operand,Y` (R203, R92). -/
def execStaAbsy (addr : Addr) (s : State) : Outcome := .next (sta (.absy addr) s)

/-- `STA Operand,X` (R203, R91). -/
def execStaAbsx (addr : Addr) (s : State) : Outcome := .next (sta (.absx addr) s)

/-- `STX Operand` (R204, R89). -/
def execStxZp (zp : Byte) (s : State) : Outcome := .next (stx (.zp zp) s)

/-- `STX Operand` (R204, R88). -/
def execStxAbs (addr : Addr) (s : State) : Outcome := .next (stx (.abs addr) s)

/-- `STX Operand,Y` (R204, R90). -/
def execStxZpy (zp : Byte) (s : State) : Outcome := .next (stx (.zpy zp) s)

/-- `STY Operand` (R205, R89). -/
def execStyZp (zp : Byte) (s : State) : Outcome := .next (sty (.zp zp) s)

/-- `STY Operand` (R205, R88). -/
def execStyAbs (addr : Addr) (s : State) : Outcome := .next (sty (.abs addr) s)

/-- `STY Operand,X` (R205, R90). -/
def execStyZpx (zp : Byte) (s : State) : Outcome := .next (sty (.zpx zp) s)

/-- `TAX` (R206, R85). -/
def execTax (s : State) : Outcome := .next (moveX s.a s)

/-- `TAY` (R207, R85). -/
def execTay (s : State) : Outcome := .next (moveY s.a s)

/-- `TSX` (R208, R85). -/
def execTsx (s : State) : Outcome := .next (moveX s.sp s)

/-- `TXA` (R209, R85). -/
def execTxa (s : State) : Outcome := .next (moveA s.x s)

/-- `TXS` (R210, R85). -/
def execTxs (s : State) : Outcome := .next ({ s with sp := s.x }.advance 1)

/-- `TYA` (R211, R85). -/
def execTya (s : State) : Outcome := .next (moveA s.y s)

end Sys2Proof.Machine
end

