-- ==== Sys2Proof/Machine/LogicShift.lean ====
section
/-! DEFINITION. Logic, bit test, shift and rotate (R139 to R148).
Each instruction has a meaning of its own over the shared operations of Ops.lean, Operands.lean and Flags.lean. -/

namespace Sys2Proof.Machine

/-- A logic instruction: the result goes to the accumulator, N and Z are set from it (R139). -/
def logic (f : Byte → Byte → Byte) (o : Operand) (s : State) : State :=
  let m := o.read s
  { m.2 with a := f s.a m.1, p := s.p.setNZ (f s.a m.1) }.advance o.length

/-- AND (R140). -/
def andA (o : Operand) (s : State) : State := logic (fun a m => a &&& m) o s

/-- ORA (R145). -/
def oraA (o : Operand) (s : State) : State := logic (fun a m => a ||| m) o s

/-- EOR (R143). -/
def eorA (o : Operand) (s : State) : State := logic (fun a m => a ^^^ m) o s

/-- BIT (R142): the accumulator is not written. -/
def bitTest (o : Operand) (s : State) : State :=
  let m := o.read s
  { m.2 with p := s.p.bitTest s.a m.1 }.advance o.length

/-- ASL, LSR, ROL and ROR (R141, R144, R146, R147): the shifted byte goes back where it came from, N and Z are set from
it, and C is the bit that left. N of LSR is bit 7 of its result, which is 0. -/
def shift (k : Shift) (t : Target) (s : State) : State :=
  (t.modify (fun f m => (k.result f.c m, f.setNZC (k.result f.c m) (k.carryOut m))) s).advance t.length

/-- `AND (Operand,X)` (R140, R94). -/
def execAndIndx (zp : Byte) (s : State) : Outcome := .next (andA (.mem (.indx zp)) s)

/-- `AND Operand` (R140, R89). -/
def execAndZp (zp : Byte) (s : State) : Outcome := .next (andA (.mem (.zp zp)) s)

/-- `AND #Operand` (R140, R87). -/
def execAndImm (imm : Byte) (s : State) : Outcome := .next (andA (.imm imm) s)

/-- `AND Operand` (R140, R88). -/
def execAndAbs (addr : Addr) (s : State) : Outcome := .next (andA (.mem (.abs addr)) s)

/-- `AND (Operand),Y` (R140, R95). -/
def execAndIndy (zp : Byte) (s : State) : Outcome := .next (andA (.mem (.indy zp)) s)

/-- `AND Operand,X` (R140, R90). -/
def execAndZpx (zp : Byte) (s : State) : Outcome := .next (andA (.mem (.zpx zp)) s)

/-- `AND Operand,Y` (R140, R92). -/
def execAndAbsy (addr : Addr) (s : State) : Outcome := .next (andA (.mem (.absy addr)) s)

/-- `AND Operand,X` (R140, R91). -/
def execAndAbsx (addr : Addr) (s : State) : Outcome := .next (andA (.mem (.absx addr)) s)

/-- `ORA (Operand,X)` (R145, R94). -/
def execOraIndx (zp : Byte) (s : State) : Outcome := .next (oraA (.mem (.indx zp)) s)

/-- `ORA Operand` (R145, R89). -/
def execOraZp (zp : Byte) (s : State) : Outcome := .next (oraA (.mem (.zp zp)) s)

/-- `ORA #Operand` (R145, R87). -/
def execOraImm (imm : Byte) (s : State) : Outcome := .next (oraA (.imm imm) s)

/-- `ORA Operand` (R145, R88). -/
def execOraAbs (addr : Addr) (s : State) : Outcome := .next (oraA (.mem (.abs addr)) s)

/-- `ORA (Operand),Y` (R145, R95). -/
def execOraIndy (zp : Byte) (s : State) : Outcome := .next (oraA (.mem (.indy zp)) s)

/-- `ORA Operand,X` (R145, R90). -/
def execOraZpx (zp : Byte) (s : State) : Outcome := .next (oraA (.mem (.zpx zp)) s)

/-- `ORA Operand,Y` (R145, R92). -/
def execOraAbsy (addr : Addr) (s : State) : Outcome := .next (oraA (.mem (.absy addr)) s)

/-- `ORA Operand,X` (R145, R91). -/
def execOraAbsx (addr : Addr) (s : State) : Outcome := .next (oraA (.mem (.absx addr)) s)

/-- `EOR (Operand,X)` (R143, R94). -/
def execEorIndx (zp : Byte) (s : State) : Outcome := .next (eorA (.mem (.indx zp)) s)

/-- `EOR Operand` (R143, R89). -/
def execEorZp (zp : Byte) (s : State) : Outcome := .next (eorA (.mem (.zp zp)) s)

/-- `EOR #Operand` (R143, R87). -/
def execEorImm (imm : Byte) (s : State) : Outcome := .next (eorA (.imm imm) s)

/-- `EOR Operand` (R143, R88). -/
def execEorAbs (addr : Addr) (s : State) : Outcome := .next (eorA (.mem (.abs addr)) s)

/-- `EOR (Operand),Y` (R143, R95). -/
def execEorIndy (zp : Byte) (s : State) : Outcome := .next (eorA (.mem (.indy zp)) s)

/-- `EOR Operand,X` (R143, R90). -/
def execEorZpx (zp : Byte) (s : State) : Outcome := .next (eorA (.mem (.zpx zp)) s)

/-- `EOR Operand,Y` (R143, R92). -/
def execEorAbsy (addr : Addr) (s : State) : Outcome := .next (eorA (.mem (.absy addr)) s)

/-- `EOR Operand,X` (R143, R91). -/
def execEorAbsx (addr : Addr) (s : State) : Outcome := .next (eorA (.mem (.absx addr)) s)

/-- `BIT Operand` (R142, R89). -/
def execBitZp (zp : Byte) (s : State) : Outcome := .next (bitTest (.mem (.zp zp)) s)

/-- `BIT Operand` (R142, R88). -/
def execBitAbs (addr : Addr) (s : State) : Outcome := .next (bitTest (.mem (.abs addr)) s)

/-- `ASL Operand` (R141, R89). -/
def execAslZp (zp : Byte) (s : State) : Outcome := .next (shift .asl (.mem (.zp zp)) s)

/-- `ASL A` (R141, R86). -/
def execAslAcc (s : State) : Outcome := .next (shift .asl .acc s)

/-- `ASL Operand` (R141, R88). -/
def execAslAbs (addr : Addr) (s : State) : Outcome := .next (shift .asl (.mem (.abs addr)) s)

/-- `ASL Operand,X` (R141, R90). -/
def execAslZpx (zp : Byte) (s : State) : Outcome := .next (shift .asl (.mem (.zpx zp)) s)

/-- `ASL Operand,X` (R141, R91). -/
def execAslAbsx (addr : Addr) (s : State) : Outcome := .next (shift .asl (.mem (.absx addr)) s)

/-- `LSR Operand` (R144, R89). -/
def execLsrZp (zp : Byte) (s : State) : Outcome := .next (shift .lsr (.mem (.zp zp)) s)

/-- `LSR A` (R144, R86). -/
def execLsrAcc (s : State) : Outcome := .next (shift .lsr .acc s)

/-- `LSR Operand` (R144, R88). -/
def execLsrAbs (addr : Addr) (s : State) : Outcome := .next (shift .lsr (.mem (.abs addr)) s)

/-- `LSR Operand,X` (R144, R90). -/
def execLsrZpx (zp : Byte) (s : State) : Outcome := .next (shift .lsr (.mem (.zpx zp)) s)

/-- `LSR Operand,X` (R144, R91). -/
def execLsrAbsx (addr : Addr) (s : State) : Outcome := .next (shift .lsr (.mem (.absx addr)) s)

/-- `ROL Operand` (R146, R89). -/
def execRolZp (zp : Byte) (s : State) : Outcome := .next (shift .rol (.mem (.zp zp)) s)

/-- `ROL A` (R146, R86). -/
def execRolAcc (s : State) : Outcome := .next (shift .rol .acc s)

/-- `ROL Operand` (R146, R88). -/
def execRolAbs (addr : Addr) (s : State) : Outcome := .next (shift .rol (.mem (.abs addr)) s)

/-- `ROL Operand,X` (R146, R90). -/
def execRolZpx (zp : Byte) (s : State) : Outcome := .next (shift .rol (.mem (.zpx zp)) s)

/-- `ROL Operand,X` (R146, R91). -/
def execRolAbsx (addr : Addr) (s : State) : Outcome := .next (shift .rol (.mem (.absx addr)) s)

/-- `ROR Operand` (R147, R89). -/
def execRorZp (zp : Byte) (s : State) : Outcome := .next (shift .ror (.mem (.zp zp)) s)

/-- `ROR A` (R147, R86). -/
def execRorAcc (s : State) : Outcome := .next (shift .ror .acc s)

/-- `ROR Operand` (R147, R88). -/
def execRorAbs (addr : Addr) (s : State) : Outcome := .next (shift .ror (.mem (.abs addr)) s)

/-- `ROR Operand,X` (R147, R90). -/
def execRorZpx (zp : Byte) (s : State) : Outcome := .next (shift .ror (.mem (.zpx zp)) s)

/-- `ROR Operand,X` (R147, R91). -/
def execRorAbsx (addr : Addr) (s : State) : Outcome := .next (shift .ror (.mem (.absx addr)) s)

end Sys2Proof.Machine
end

