-- ==== Sys2Proof/Machine/Stack.lean ====
section
/-! DEFINITION. Push and pull (R220 to R231).
Each instruction has a meaning of its own over the shared operations of Ops.lean, Operands.lean and Flags.lean. -/

namespace Sys2Proof.Machine

/-- PLA (R224): N and Z of the byte pulled. -/
def pullA (s : State) : State :=
  let r := pull s
  { r.2 with a := r.1, p := r.2.p.setNZ r.1 }.advance 1

/-- `PHA` (R222, R85). -/
def execPha (s : State) : Outcome := .next ((push s.a s).advance 1)

/-- `PHP` (R223, R85). -/
def execPhp (s : State) : Outcome := .next ((pushStatus false s).advance 1)

/-- `PLA` (R224, R85). -/
def execPla (s : State) : Outcome := .next (pullA s)

/-- `PLP` (R225, R85). -/
def execPlp (s : State) : Outcome := .next ((pullStatus s).advance 1)

end Sys2Proof.Machine
end

