-- ==== Sys2Proof/Decode.lean ====
section
/-! DEFINITION. The opcode map of Table II in both directions (R100): from bytes to an instruction, total on any
bytes and refusing by name, and from an instruction to its bytes. -/

namespace Sys2Proof

open Sys2Proof.Machine (mkAddr hiByte loByte)

/-- What an operation code asks of the bytes after it (the formats F1, F2 and F3 of R80). -/
inductive Form where
  /-- One byte: no operand. -/
  | alone (i : Instr)
  /-- Two bytes: the operand is the second. -/
  | byte (mk : Byte → Instr)
  /-- Three bytes: the operand is an address, low-order byte first. -/
  | word (mk : Addr → Instr)

/-- The number of bytes of a form. -/
def Form.length : Form → Nat
  | .alone _ => 1
  | .byte _ => 2
  | .word _ => 3

/-- Why bytes are not an instruction. -/
inductive DecodeError where
  /-- The first byte is one of the 105 values that Table II does not list (R103). -/
  | unlistedOpcode (opcode : Byte)
  /-- There are fewer bytes than the operation code asks for. -/
  | truncated
deriving DecidableEq, Repr

/-- The opcode map, R100: `none` for the values Table II does not list. -/
def opcodeForm (opcode : Byte) : Option Form :=
  match opcode.toNat with
  | 0x00 => some (.alone .brk)
  | 0x01 => some (.byte .oraIndx)
  | 0x05 => some (.byte .oraZp)
  | 0x06 => some (.byte .aslZp)
  | 0x08 => some (.alone .php)
  | 0x09 => some (.byte .oraImm)
  | 0x0A => some (.alone .aslAcc)
  | 0x0D => some (.word .oraAbs)
  | 0x0E => some (.word .aslAbs)
  | 0x10 => some (.byte .bpl)
  | 0x11 => some (.byte .oraIndy)
  | 0x15 => some (.byte .oraZpx)
  | 0x16 => some (.byte .aslZpx)
  | 0x18 => some (.alone .clc)
  | 0x19 => some (.word .oraAbsy)
  | 0x1D => some (.word .oraAbsx)
  | 0x1E => some (.word .aslAbsx)
  | 0x20 => some (.word .jsr)
  | 0x21 => some (.byte .andIndx)
  | 0x24 => some (.byte .bitZp)
  | 0x25 => some (.byte .andZp)
  | 0x26 => some (.byte .rolZp)
  | 0x28 => some (.alone .plp)
  | 0x29 => some (.byte .andImm)
  | 0x2A => some (.alone .rolAcc)
  | 0x2C => some (.word .bitAbs)
  | 0x2D => some (.word .andAbs)
  | 0x2E => some (.word .rolAbs)
  | 0x30 => some (.byte .bmi)
  | 0x31 => some (.byte .andIndy)
  | 0x35 => some (.byte .andZpx)
  | 0x36 => some (.byte .rolZpx)
  | 0x38 => some (.alone .sec)
  | 0x39 => some (.word .andAbsy)
  | 0x3D => some (.word .andAbsx)
  | 0x3E => some (.word .rolAbsx)
  | 0x40 => some (.alone .rti)
  | 0x41 => some (.byte .eorIndx)
  | 0x45 => some (.byte .eorZp)
  | 0x46 => some (.byte .lsrZp)
  | 0x48 => some (.alone .pha)
  | 0x49 => some (.byte .eorImm)
  | 0x4A => some (.alone .lsrAcc)
  | 0x4C => some (.word .jmpAbs)
  | 0x4D => some (.word .eorAbs)
  | 0x4E => some (.word .lsrAbs)
  | 0x50 => some (.byte .bvc)
  | 0x51 => some (.byte .eorIndy)
  | 0x55 => some (.byte .eorZpx)
  | 0x56 => some (.byte .lsrZpx)
  | 0x58 => some (.alone .cli)
  | 0x59 => some (.word .eorAbsy)
  | 0x5D => some (.word .eorAbsx)
  | 0x5E => some (.word .lsrAbsx)
  | 0x60 => some (.alone .rts)
  | 0x61 => some (.byte .adcIndx)
  | 0x65 => some (.byte .adcZp)
  | 0x66 => some (.byte .rorZp)
  | 0x68 => some (.alone .pla)
  | 0x69 => some (.byte .adcImm)
  | 0x6A => some (.alone .rorAcc)
  | 0x6C => some (.word .jmpInd)
  | 0x6D => some (.word .adcAbs)
  | 0x6E => some (.word .rorAbs)
  | 0x70 => some (.byte .bvs)
  | 0x71 => some (.byte .adcIndy)
  | 0x75 => some (.byte .adcZpx)
  | 0x76 => some (.byte .rorZpx)
  | 0x78 => some (.alone .sei)
  | 0x79 => some (.word .adcAbsy)
  | 0x7D => some (.word .adcAbsx)
  | 0x7E => some (.word .rorAbsx)
  | 0x81 => some (.byte .staIndx)
  | 0x84 => some (.byte .styZp)
  | 0x85 => some (.byte .staZp)
  | 0x86 => some (.byte .stxZp)
  | 0x88 => some (.alone .dey)
  | 0x8A => some (.alone .txa)
  | 0x8C => some (.word .styAbs)
  | 0x8D => some (.word .staAbs)
  | 0x8E => some (.word .stxAbs)
  | 0x90 => some (.byte .bcc)
  | 0x91 => some (.byte .staIndy)
  | 0x94 => some (.byte .styZpx)
  | 0x95 => some (.byte .staZpx)
  | 0x96 => some (.byte .stxZpy)
  | 0x98 => some (.alone .tya)
  | 0x99 => some (.word .staAbsy)
  | 0x9A => some (.alone .txs)
  | 0x9D => some (.word .staAbsx)
  | 0xA0 => some (.byte .ldyImm)
  | 0xA1 => some (.byte .ldaIndx)
  | 0xA2 => some (.byte .ldxImm)
  | 0xA4 => some (.byte .ldyZp)
  | 0xA5 => some (.byte .ldaZp)
  | 0xA6 => some (.byte .ldxZp)
  | 0xA8 => some (.alone .tay)
  | 0xA9 => some (.byte .ldaImm)
  | 0xAA => some (.alone .tax)
  | 0xAC => some (.word .ldyAbs)
  | 0xAD => some (.word .ldaAbs)
  | 0xAE => some (.word .ldxAbs)
  | 0xB0 => some (.byte .bcs)
  | 0xB1 => some (.byte .ldaIndy)
  | 0xB4 => some (.byte .ldyZpx)
  | 0xB5 => some (.byte .ldaZpx)
  | 0xB6 => some (.byte .ldxZpy)
  | 0xB8 => some (.alone .clv)
  | 0xB9 => some (.word .ldaAbsy)
  | 0xBA => some (.alone .tsx)
  | 0xBC => some (.word .ldyAbsx)
  | 0xBD => some (.word .ldaAbsx)
  | 0xBE => some (.word .ldxAbsy)
  | 0xC0 => some (.byte .cpyImm)
  | 0xC1 => some (.byte .cmpIndx)
  | 0xC4 => some (.byte .cpyZp)
  | 0xC5 => some (.byte .cmpZp)
  | 0xC6 => some (.byte .decZp)
  | 0xC8 => some (.alone .iny)
  | 0xC9 => some (.byte .cmpImm)
  | 0xCA => some (.alone .dex)
  | 0xCC => some (.word .cpyAbs)
  | 0xCD => some (.word .cmpAbs)
  | 0xCE => some (.word .decAbs)
  | 0xD0 => some (.byte .bne)
  | 0xD1 => some (.byte .cmpIndy)
  | 0xD5 => some (.byte .cmpZpx)
  | 0xD6 => some (.byte .decZpx)
  | 0xD8 => some (.alone .cld)
  | 0xD9 => some (.word .cmpAbsy)
  | 0xDD => some (.word .cmpAbsx)
  | 0xDE => some (.word .decAbsx)
  | 0xE0 => some (.byte .cpxImm)
  | 0xE1 => some (.byte .sbcIndx)
  | 0xE4 => some (.byte .cpxZp)
  | 0xE5 => some (.byte .sbcZp)
  | 0xE6 => some (.byte .incZp)
  | 0xE8 => some (.alone .inx)
  | 0xE9 => some (.byte .sbcImm)
  | 0xEA => some (.alone .nop)
  | 0xEC => some (.word .cpxAbs)
  | 0xED => some (.word .sbcAbs)
  | 0xEE => some (.word .incAbs)
  | 0xF0 => some (.byte .beq)
  | 0xF1 => some (.byte .sbcIndy)
  | 0xF5 => some (.byte .sbcZpx)
  | 0xF6 => some (.byte .incZpx)
  | 0xF8 => some (.alone .sed)
  | 0xF9 => some (.word .sbcAbsy)
  | 0xFD => some (.word .sbcAbsx)
  | 0xFE => some (.word .incAbsx)
  | _ => none

/-- Decode the instruction at the start of some bytes; also answers the bytes that follow it. -/
def decode : List Byte → Except DecodeError (Instr × List Byte)
  | [] => .error .truncated
  | opcode :: rest =>
    match opcodeForm opcode, rest with
    | none, _ => .error (.unlistedOpcode opcode)
    | some (.alone i), rest => .ok (i, rest)
    | some (.byte mk), b :: rest => .ok (mk b, rest)
    | some (.word mk), lo :: hi :: rest => .ok (mk (mkAddr hi lo), rest)
    | some _, _ => .error .truncated

/-- The operation code of each instruction (R101). -/
def Instr.opcode : Instr → Byte
  | .adcIndx _ => 0x61
  | .adcZp _ => 0x65
  | .adcImm _ => 0x69
  | .adcAbs _ => 0x6D
  | .adcIndy _ => 0x71
  | .adcZpx _ => 0x75
  | .adcAbsy _ => 0x79
  | .adcAbsx _ => 0x7D
  | .andIndx _ => 0x21
  | .andZp _ => 0x25
  | .andImm _ => 0x29
  | .andAbs _ => 0x2D
  | .andIndy _ => 0x31
  | .andZpx _ => 0x35
  | .andAbsy _ => 0x39
  | .andAbsx _ => 0x3D
  | .aslZp _ => 0x06
  | .aslAcc => 0x0A
  | .aslAbs _ => 0x0E
  | .aslZpx _ => 0x16
  | .aslAbsx _ => 0x1E
  | .bcc _ => 0x90
  | .bcs _ => 0xB0
  | .beq _ => 0xF0
  | .bitZp _ => 0x24
  | .bitAbs _ => 0x2C
  | .bmi _ => 0x30
  | .bne _ => 0xD0
  | .bpl _ => 0x10
  | .brk => 0x00
  | .bvc _ => 0x50
  | .bvs _ => 0x70
  | .clc => 0x18
  | .cld => 0xD8
  | .cli => 0x58
  | .clv => 0xB8
  | .cmpIndx _ => 0xC1
  | .cmpZp _ => 0xC5
  | .cmpImm _ => 0xC9
  | .cmpAbs _ => 0xCD
  | .cmpIndy _ => 0xD1
  | .cmpZpx _ => 0xD5
  | .cmpAbsy _ => 0xD9
  | .cmpAbsx _ => 0xDD
  | .cpxImm _ => 0xE0
  | .cpxZp _ => 0xE4
  | .cpxAbs _ => 0xEC
  | .cpyImm _ => 0xC0
  | .cpyZp _ => 0xC4
  | .cpyAbs _ => 0xCC
  | .decZp _ => 0xC6
  | .decAbs _ => 0xCE
  | .decZpx _ => 0xD6
  | .decAbsx _ => 0xDE
  | .dex => 0xCA
  | .dey => 0x88
  | .eorIndx _ => 0x41
  | .eorZp _ => 0x45
  | .eorImm _ => 0x49
  | .eorAbs _ => 0x4D
  | .eorIndy _ => 0x51
  | .eorZpx _ => 0x55
  | .eorAbsy _ => 0x59
  | .eorAbsx _ => 0x5D
  | .incZp _ => 0xE6
  | .incAbs _ => 0xEE
  | .incZpx _ => 0xF6
  | .incAbsx _ => 0xFE
  | .inx => 0xE8
  | .iny => 0xC8
  | .jmpAbs _ => 0x4C
  | .jmpInd _ => 0x6C
  | .jsr _ => 0x20
  | .ldaIndx _ => 0xA1
  | .ldaZp _ => 0xA5
  | .ldaImm _ => 0xA9
  | .ldaAbs _ => 0xAD
  | .ldaIndy _ => 0xB1
  | .ldaZpx _ => 0xB5
  | .ldaAbsy _ => 0xB9
  | .ldaAbsx _ => 0xBD
  | .ldxImm _ => 0xA2
  | .ldxZp _ => 0xA6
  | .ldxAbs _ => 0xAE
  | .ldxZpy _ => 0xB6
  | .ldxAbsy _ => 0xBE
  | .ldyImm _ => 0xA0
  | .ldyZp _ => 0xA4
  | .ldyAbs _ => 0xAC
  | .ldyZpx _ => 0xB4
  | .ldyAbsx _ => 0xBC
  | .lsrZp _ => 0x46
  | .lsrAcc => 0x4A
  | .lsrAbs _ => 0x4E
  | .lsrZpx _ => 0x56
  | .lsrAbsx _ => 0x5E
  | .nop => 0xEA
  | .oraIndx _ => 0x01
  | .oraZp _ => 0x05
  | .oraImm _ => 0x09
  | .oraAbs _ => 0x0D
  | .oraIndy _ => 0x11
  | .oraZpx _ => 0x15
  | .oraAbsy _ => 0x19
  | .oraAbsx _ => 0x1D
  | .pha => 0x48
  | .php => 0x08
  | .pla => 0x68
  | .plp => 0x28
  | .rolZp _ => 0x26
  | .rolAcc => 0x2A
  | .rolAbs _ => 0x2E
  | .rolZpx _ => 0x36
  | .rolAbsx _ => 0x3E
  | .rorZp _ => 0x66
  | .rorAcc => 0x6A
  | .rorAbs _ => 0x6E
  | .rorZpx _ => 0x76
  | .rorAbsx _ => 0x7E
  | .rti => 0x40
  | .rts => 0x60
  | .sbcIndx _ => 0xE1
  | .sbcZp _ => 0xE5
  | .sbcImm _ => 0xE9
  | .sbcAbs _ => 0xED
  | .sbcIndy _ => 0xF1
  | .sbcZpx _ => 0xF5
  | .sbcAbsy _ => 0xF9
  | .sbcAbsx _ => 0xFD
  | .sec => 0x38
  | .sed => 0xF8
  | .sei => 0x78
  | .staIndx _ => 0x81
  | .staZp _ => 0x85
  | .staAbs _ => 0x8D
  | .staIndy _ => 0x91
  | .staZpx _ => 0x95
  | .staAbsy _ => 0x99
  | .staAbsx _ => 0x9D
  | .stxZp _ => 0x86
  | .stxAbs _ => 0x8E
  | .stxZpy _ => 0x96
  | .styZp _ => 0x84
  | .styAbs _ => 0x8C
  | .styZpx _ => 0x94
  | .tax => 0xAA
  | .tay => 0xA8
  | .tsx => 0xBA
  | .txa => 0x8A
  | .txs => 0x9A
  | .tya => 0x98

/-- The mnemonic of each instruction (R101). -/
def Instr.op : Instr → Op
  | .adcIndx _ | .adcZp _ | .adcImm _ | .adcAbs _ | .adcIndy _ | .adcZpx _ | .adcAbsy _ | .adcAbsx _ => .adc
  | .andIndx _ | .andZp _ | .andImm _ | .andAbs _ | .andIndy _ | .andZpx _ | .andAbsy _ | .andAbsx _ => .and
  | .aslZp _ | .aslAcc | .aslAbs _ | .aslZpx _ | .aslAbsx _ => .asl
  | .bcc _ => .bcc
  | .bcs _ => .bcs
  | .beq _ => .beq
  | .bitZp _ | .bitAbs _ => .bit
  | .bmi _ => .bmi
  | .bne _ => .bne
  | .bpl _ => .bpl
  | .brk => .brk
  | .bvc _ => .bvc
  | .bvs _ => .bvs
  | .clc => .clc
  | .cld => .cld
  | .cli => .cli
  | .clv => .clv
  | .cmpIndx _ | .cmpZp _ | .cmpImm _ | .cmpAbs _ | .cmpIndy _ | .cmpZpx _ | .cmpAbsy _ | .cmpAbsx _ => .cmp
  | .cpxImm _ | .cpxZp _ | .cpxAbs _ => .cpx
  | .cpyImm _ | .cpyZp _ | .cpyAbs _ => .cpy
  | .decZp _ | .decAbs _ | .decZpx _ | .decAbsx _ => .dec
  | .dex => .dex
  | .dey => .dey
  | .eorIndx _ | .eorZp _ | .eorImm _ | .eorAbs _ | .eorIndy _ | .eorZpx _ | .eorAbsy _ | .eorAbsx _ => .eor
  | .incZp _ | .incAbs _ | .incZpx _ | .incAbsx _ => .inc
  | .inx => .inx
  | .iny => .iny
  | .jmpAbs _ | .jmpInd _ => .jmp
  | .jsr _ => .jsr
  | .ldaIndx _ | .ldaZp _ | .ldaImm _ | .ldaAbs _ | .ldaIndy _ | .ldaZpx _ | .ldaAbsy _ | .ldaAbsx _ => .lda
  | .ldxImm _ | .ldxZp _ | .ldxAbs _ | .ldxZpy _ | .ldxAbsy _ => .ldx
  | .ldyImm _ | .ldyZp _ | .ldyAbs _ | .ldyZpx _ | .ldyAbsx _ => .ldy
  | .lsrZp _ | .lsrAcc | .lsrAbs _ | .lsrZpx _ | .lsrAbsx _ => .lsr
  | .nop => .nop
  | .oraIndx _ | .oraZp _ | .oraImm _ | .oraAbs _ | .oraIndy _ | .oraZpx _ | .oraAbsy _ | .oraAbsx _ => .ora
  | .pha => .pha
  | .php => .php
  | .pla => .pla
  | .plp => .plp
  | .rolZp _ | .rolAcc | .rolAbs _ | .rolZpx _ | .rolAbsx _ => .rol
  | .rorZp _ | .rorAcc | .rorAbs _ | .rorZpx _ | .rorAbsx _ => .ror
  | .rti => .rti
  | .rts => .rts
  | .sbcIndx _ | .sbcZp _ | .sbcImm _ | .sbcAbs _ | .sbcIndy _ | .sbcZpx _ | .sbcAbsy _ | .sbcAbsx _ => .sbc
  | .sec => .sec
  | .sed => .sed
  | .sei => .sei
  | .staIndx _ | .staZp _ | .staAbs _ | .staIndy _ | .staZpx _ | .staAbsy _ | .staAbsx _ => .sta
  | .stxZp _ | .stxAbs _ | .stxZpy _ => .stx
  | .styZp _ | .styAbs _ | .styZpx _ => .sty
  | .tax => .tax
  | .tay => .tay
  | .tsx => .tsx
  | .txa => .txa
  | .txs => .txs
  | .tya => .tya

/-- The addressing mode of each instruction (R101). -/
def Instr.mode : Instr → Mode
  | .adcIndx _ | .andIndx _ | .cmpIndx _ | .eorIndx _ | .ldaIndx _ | .oraIndx _ | .sbcIndx _ | .staIndx _ => .indexedIndirect
  | .adcZp _ | .andZp _ | .aslZp _ | .bitZp _ | .cmpZp _ | .cpxZp _ | .cpyZp _ | .decZp _ | .eorZp _ | .incZp _
  | .ldaZp _ | .ldxZp _ | .ldyZp _ | .lsrZp _ | .oraZp _ | .rolZp _ | .rorZp _ | .sbcZp _ | .staZp _ | .stxZp _
  | .styZp _ => .zeroPage
  | .adcImm _ | .andImm _ | .cmpImm _ | .cpxImm _ | .cpyImm _ | .eorImm _ | .ldaImm _ | .ldxImm _ | .ldyImm _
  | .oraImm _ | .sbcImm _ => .immediate
  | .adcAbs _ | .andAbs _ | .aslAbs _ | .bitAbs _ | .cmpAbs _ | .cpxAbs _ | .cpyAbs _ | .decAbs _ | .eorAbs _
  | .incAbs _ | .jmpAbs _ | .jsr _ | .ldaAbs _ | .ldxAbs _ | .ldyAbs _ | .lsrAbs _ | .oraAbs _ | .rolAbs _
  | .rorAbs _ | .sbcAbs _ | .staAbs _ | .stxAbs _ | .styAbs _ => .absolute
  | .adcIndy _ | .andIndy _ | .cmpIndy _ | .eorIndy _ | .ldaIndy _ | .oraIndy _ | .sbcIndy _ | .staIndy _ => .indirectIndexed
  | .adcZpx _ | .andZpx _ | .aslZpx _ | .cmpZpx _ | .decZpx _ | .eorZpx _ | .incZpx _ | .ldaZpx _ | .ldyZpx _
  | .lsrZpx _ | .oraZpx _ | .rolZpx _ | .rorZpx _ | .sbcZpx _ | .staZpx _ | .styZpx _ => .zeroPageX
  | .adcAbsy _ | .andAbsy _ | .cmpAbsy _ | .eorAbsy _ | .ldaAbsy _ | .ldxAbsy _ | .oraAbsy _ | .sbcAbsy _
  | .staAbsy _ => .absoluteY
  | .adcAbsx _ | .andAbsx _ | .aslAbsx _ | .cmpAbsx _ | .decAbsx _ | .eorAbsx _ | .incAbsx _ | .ldaAbsx _
  | .ldyAbsx _ | .lsrAbsx _ | .oraAbsx _ | .rolAbsx _ | .rorAbsx _ | .sbcAbsx _ | .staAbsx _ => .absoluteX
  | .aslAcc | .lsrAcc | .rolAcc | .rorAcc => .accumulator
  | .bcc _ | .bcs _ | .beq _ | .bmi _ | .bne _ | .bpl _ | .bvc _ | .bvs _ => .relative
  | .brk | .clc | .cld | .cli | .clv | .dex | .dey | .inx | .iny | .nop | .pha | .php | .pla | .plp | .rti
  | .rts | .sec | .sed | .sei | .tax | .tay | .tsx | .txa | .txs | .tya => .implied
  | .jmpInd _ => .indirect
  | .ldxZpy _ | .stxZpy _ => .zeroPageY

/-- The operand bytes of each instruction, in the order they stand in memory (R80). -/
def Instr.operandBytes : Instr → List Byte
  | .aslAcc | .brk | .clc | .cld | .cli | .clv | .dex | .dey | .inx | .iny | .lsrAcc | .nop | .pha | .php | .pla
  | .plp | .rolAcc | .rorAcc | .rti | .rts | .sec | .sed | .sei | .tax | .tay | .tsx | .txa | .txs | .tya => []
  | .adcIndx v | .adcZp v | .adcImm v | .adcIndy v | .adcZpx v | .andIndx v | .andZp v | .andImm v | .andIndy v
  | .andZpx v | .aslZp v | .aslZpx v | .bcc v | .bcs v | .beq v | .bitZp v | .bmi v | .bne v | .bpl v | .bvc v
  | .bvs v | .cmpIndx v | .cmpZp v | .cmpImm v | .cmpIndy v | .cmpZpx v | .cpxImm v | .cpxZp v | .cpyImm v
  | .cpyZp v | .decZp v | .decZpx v | .eorIndx v | .eorZp v | .eorImm v | .eorIndy v | .eorZpx v | .incZp v
  | .incZpx v | .ldaIndx v | .ldaZp v | .ldaImm v | .ldaIndy v | .ldaZpx v | .ldxImm v | .ldxZp v | .ldxZpy v
  | .ldyImm v | .ldyZp v | .ldyZpx v | .lsrZp v | .lsrZpx v | .oraIndx v | .oraZp v | .oraImm v | .oraIndy v
  | .oraZpx v | .rolZp v | .rolZpx v | .rorZp v | .rorZpx v | .sbcIndx v | .sbcZp v | .sbcImm v | .sbcIndy v
  | .sbcZpx v | .staIndx v | .staZp v | .staIndy v | .staZpx v | .stxZp v | .stxZpy v | .styZp v | .styZpx v => [v]
  | .adcAbs v | .adcAbsy v | .adcAbsx v | .andAbs v | .andAbsy v | .andAbsx v | .aslAbs v | .aslAbsx v
  | .bitAbs v | .cmpAbs v | .cmpAbsy v | .cmpAbsx v | .cpxAbs v | .cpyAbs v | .decAbs v | .decAbsx v | .eorAbs v
  | .eorAbsy v | .eorAbsx v | .incAbs v | .incAbsx v | .jmpAbs v | .jmpInd v | .jsr v | .ldaAbs v | .ldaAbsy v
  | .ldaAbsx v | .ldxAbs v | .ldxAbsy v | .ldyAbs v | .ldyAbsx v | .lsrAbs v | .lsrAbsx v | .oraAbs v
  | .oraAbsy v | .oraAbsx v | .rolAbs v | .rolAbsx v | .rorAbs v | .rorAbsx v | .sbcAbs v | .sbcAbsy v
  | .sbcAbsx v | .staAbs v | .staAbsy v | .staAbsx v | .stxAbs v | .styAbs v => [loByte v, hiByte v]

/-- The number of bytes of an instruction (R82). -/
def Instr.length (i : Instr) : Nat := i.mode.length

/-- The bytes of an instruction, the operation code first (R80, R101). -/
def encode (i : Instr) : List Byte := i.opcode :: i.operandBytes

/-- The three bytes that hold the instruction of the `nbits` low bits of `w`: bit 0 of `w` is bit 0 of the first
byte, and every bit from `nbits` on is 0. -/
def tableBytes (nbits w : Nat) : List Byte :=
  let v := w % 2 ^ nbits
  [BitVec.ofNat 8 v, BitVec.ofNat 8 (v / 256), BitVec.ofNat 8 (v / 65536)]

/-- The instruction that `decode` reads from a row of the opcode table. -/
def decodeTableWord (nbits w : Nat) : Option Instr :=
  match decode (tableBytes nbits w) with
  | .ok (i, _) => some i
  | .error _ => none

end Sys2Proof
end

