-- ==== Sys2Proof/Machine/Timing.lean ====
section
/-! DEFINITION. Execution times (R356, R359): the cycles of Table I with their two adjustments. Time is data attached
to the steps (R362); nothing but a VIA under `VIA_TIME` = `cycles` depends on it. -/

namespace Sys2Proof.Machine

/-- The cycles of the instructions that read an operand and write no memory, by mode (R359). -/
def readCycles : Mode → Nat
  | .implied | .accumulator | .immediate | .relative => 2
  | .zeroPage => 3
  | .zeroPageX | .zeroPageY | .absolute | .absoluteX | .absoluteY => 4
  | .indexedIndirect => 6
  | .indirectIndexed => 5
  | .indirect => 5

/-- The cycles of the stores, by mode (R359). -/
def storeCycles : Mode → Nat
  | .implied | .accumulator | .immediate | .relative => 2
  | .zeroPage => 3
  | .zeroPageX | .zeroPageY | .absolute => 4
  | .absoluteX | .absoluteY | .indirect => 5
  | .indexedIndirect | .indirectIndexed => 6

/-- The cycles of the read-modify-write instructions, by mode (R359). -/
def modifyCycles : Mode → Nat
  | .implied | .accumulator | .immediate | .relative => 2
  | .zeroPage => 5
  | .zeroPageX | .zeroPageY | .absolute => 6
  | .absoluteX | .absoluteY | .indirect | .indexedIndirect | .indirectIndexed => 7

/-- The figure of Table I, without its adjustments (R359). -/
def baseCycles (i : Instr) : Nat :=
  match i.op with
  | .adc | .and | .cmp | .eor | .lda | .ora | .sbc | .ldx | .ldy | .cpx | .cpy | .bit => readCycles i.mode
  | .sta | .stx | .sty => storeCycles i.mode
  | .asl | .lsr | .rol | .ror | .inc | .dec => modifyCycles i.mode
  | .bcc | .bcs | .beq | .bmi | .bne | .bpl | .bvc | .bvs => 2
  | .jmp =>
    match i.mode with
    | .indirect => 5
    | _ => 3
  | .jsr | .rts | .rti => 6
  | .brk => 7
  | .pha | .php => 3
  | .pla | .plp => 4
  | .clc | .cld | .cli | .clv | .sec | .sed | .sei | .nop | .dex | .dey | .inx | .iny | .tax | .tay | .tsx
  | .txa | .txs | .tya => 2

/-- The star of Table I: one more cycle when the indexed access crosses a page (R356, R359). -/
def starred (i : Instr) : Bool :=
  match i.op with
  | .adc | .and | .cmp | .eor | .lda | .ora | .sbc | .ldx | .ldy =>
    i.mode == .absoluteX || i.mode == .absoluteY || i.mode == .indirectIndexed
  | _ => false

/-- The address stored at a pointer on page $00, looked up without a bus access. -/
def peekPointer (s : State) (zp : Byte) : Addr := mkAddr (s.mem.read (zext (zp + 1))) (s.mem.read (zext zp))

/-- The indexed access of an instruction crosses a page: the high byte of the effective address is not that of the
address before the index is added (R97). -/
def crossesPage (i : Instr) (s : State) : Bool :=
  match i.mode, i.operandBytes with
  | .absoluteX, [lo, hi] => pageDiffers (mkAddr hi lo + zext s.x) (mkAddr hi lo)
  | .absoluteY, [lo, hi] => pageDiffers (mkAddr hi lo + zext s.y) (mkAddr hi lo)
  | .indirectIndexed, [zp] => pageDiffers (peekPointer s zp + zext s.y) (peekPointer s zp)
  | _, _ => false

/-- The flag test of a conditional branch: whether it is taken (R161 to R168). -/
def branchTaken (i : Instr) (p : Flags) : Bool :=
  match i.op with
  | .bcc => !p.c
  | .bcs => p.c
  | .bne => !p.z
  | .beq => p.z
  | .bpl => !p.n
  | .bmi => p.n
  | .bvc => !p.v
  | .bvs => p.v
  | _ => false

/-- The cycles a taken branch adds: 1, or 2 when its target is on another page than the next instruction (R356, R97,
D24). -/
def branchCycles (i : Instr) (s : State) : Nat :=
  if branchTaken i s.p then
    match i.operandBytes with
    | [disp] => if pageDiffers (s.pc + 2 + sext disp) (s.pc + 2) then 2 else 1
    | _ => 0
  else 0

/-- The execution time of an instruction in clock cycles (R356). -/
def instrCycles (i : Instr) (s : State) : Nat :=
  baseCycles i + (if starred i && crossesPage i s then 1 else 0) + branchCycles i s

end Sys2Proof.Machine
end

