-- ==== Sys2Proof/Machine/Sequence.lean ====
section
/-! DEFINITION. The step relation around the instructions (R243): which of reset, NMI, IRQ and the next instruction
comes at a boundary, fetching an instruction's bytes (R54), and how the clock of a step reaches the VIAs (R285). -/

namespace Sys2Proof.Machine

/-- What happens at an instruction boundary (R243). -/
inductive Boundary where
  /-- RES is low: nothing. -/
  | held
  /-- RES has gone high: the reset sequence. -/
  | reset
  /-- The NMI sequence. -/
  | nmi
  /-- The IRQ sequence. -/
  | irq
  /-- The instruction at the program counter. -/
  | run
deriving DecidableEq, Repr

/-- The choice at a boundary: reset before NMI before IRQ (R243, R244, D16). The poll sees the `I` that the last
instruction left (R190, R246). -/
def boundary (s : State) : Boundary :=
  if !s.io.resLine then .held
  else if s.io.resetDue then .reset
  else if s.io.nmiPending then .nmi
  else if s.io.irqLow && !s.p.i then .irq
  else .run

/-- The environment acts at a boundary (R241). -/
def arrive (s : State) : State := { s with io := s.io.move s.cfg }

/-- The clock cycles of an instruction, before it runs: they are added to the cycles spent and, under `VIA_TIME` =
`cycles`, owed to the VIAs. -/
def charge (n : Nat) (s : State) : State :=
  match s.cfg.viaTime with
  | .free => { s with cycles := s.cycles + n }
  | .cycles => { s with cycles := s.cycles + n, io := { s.io with owed := n } }

/-- The VIAs are given the clock cycles still owed. -/
def Io.pay (io : Io) : Io := { io with owed := 0 }.tick io.owed

/-- At the end of a step the VIAs have seen all its clock cycles. -/
def settleClock (s : State) : State :=
  match s.cfg.viaTime with
  | .free => s
  | .cycles => { s with io := s.io.pay }

/-- The VIAs after an entry or reset sequence, whose length in cycles the spec does not give (R361, U14): under
`VIA_TIME` = `cycles` a free number of clock pulses passes. -/
def sequenceClock (s : State) : State :=
  match s.cfg.viaTime with
  | .free => s
  | .cycles => { s with io := (s.io.tick (Config.anyCount s.io.draws)).draw 1 }

/-- Fetch the instruction at the program counter: its own bytes in ascending order, one read each, the first in the
state given (R54, R57, D14). An operation code that Table II does not list is answered as it is (R103). DESIGN CHOICE
(log entry 26): under `VIA_TIME` = `cycles` a byte fetched from a register of a VIA samples it before any clock cycle
of the step, whose number is known only when the instruction is. -/
def fetch (s : State) : Except Byte (Instr × State) :=
  let r0 := busRead s s.pc
  match opcodeForm r0.1 with
  | none => .error r0.1
  | some (.alone i) => .ok (i, r0.2)
  | some (.byte mk) =>
    let r1 := busRead r0.2 (s.pc + 1)
    .ok (mk r1.1, r1.2)
  | some (.word mk) =>
    let r1 := busRead r0.2 (s.pc + 1)
    let r2 := busRead r1.2 (s.pc + 2)
    .ok (mk (mkAddr r2.1 r1.1), r2.2)

/-- The state in which a fetched instruction runs. -/
def ready (i : Instr) (s : State) : State := charge (instrCycles i s) s

/-- What an instruction's outcome becomes at the end of its step. -/
def finish : Outcome → Outcome
  | .next s => .next (settleClock s)
  | .fault r => .fault r
  | .refused r => .refused r

/-- The three bytes of a word of the opcode table, stored where the next instruction is fetched. -/
def placeWord (nbits w : Nat) (s : State) : State :=
  { s with mem := s.mem.writeAll s.pc (tableBytes nbits w) }

end Sys2Proof.Machine
end

