-- ==== Sys2Proof/Machine/Step.lean ====
section
/-! DEFINITION. One step of the machine (R243): the environment acts, then one of nothing (RES low), the reset
sequence, the NMI sequence, the IRQ sequence, or one whole instruction. -/

namespace Sys2Proof.Machine

/-- The instruction at the program counter is fetched and runs; an operation code that Table II does not list has no
next state (R103, D7). The cycles of the step are charged after the fetch: DESIGN CHOICE (log entry 26) for a fetch from
a register of a VIA. -/
def runInstruction (s : State) : Outcome :=
  match fetch s with
  | .ok (i, s1) => finish (exec i (ready i s1))
  | .error opcode => .refused (.unlistedOpcode opcode)

/-- One step. -/
def step (s : State) : Host.Outcome State Fault Refusal :=
  match boundary (arrive s) with
  | .held => .next (arrive s)
  | .reset => .next (sequenceClock (resetSequence (arrive s)))
  | .nmi => .next (sequenceClock (nmiSequence (arrive s)))
  | .irq => .next (sequenceClock (irqSequence (arrive s)))
  | .run => runInstruction (arrive s)

/-- The state with an instruction's bytes where the next step fetches (at the program counter), the bits above `nbits`
zero. -/
def State.withFetchWord (s : State) (nbits w : Nat) : State := placeWord nbits w s

end Sys2Proof.Machine
end

