-- ==== Sys2Proof/Safety.lean ====
section
/-! DEFINITION. The terms in which the claims are made: the operand of each instruction, what it means that memory is
kept, the sets of instructions that write a flag, a register or memory (R21 to R23, R37, R57), and the invariant that
every step keeps. -/

namespace Sys2Proof

open Sys2Proof.Machine

/-! ### The operand of an instruction (R101) -/

/-- The operand of an instruction that only reads it. -/
def Instr.operand : Instr → Option Operand
  | .adcIndx v => some (.mem (.indx v))
  | .adcZp v => some (.mem (.zp v))
  | .adcImm v => some (.imm v)
  | .adcAbs v => some (.mem (.abs v))
  | .adcIndy v => some (.mem (.indy v))
  | .adcZpx v => some (.mem (.zpx v))
  | .adcAbsy v => some (.mem (.absy v))
  | .adcAbsx v => some (.mem (.absx v))
  | .andIndx v => some (.mem (.indx v))
  | .andZp v => some (.mem (.zp v))
  | .andImm v => some (.imm v)
  | .andAbs v => some (.mem (.abs v))
  | .andIndy v => some (.mem (.indy v))
  | .andZpx v => some (.mem (.zpx v))
  | .andAbsy v => some (.mem (.absy v))
  | .andAbsx v => some (.mem (.absx v))
  | .bitZp v => some (.mem (.zp v))
  | .bitAbs v => some (.mem (.abs v))
  | .cmpIndx v => some (.mem (.indx v))
  | .cmpZp v => some (.mem (.zp v))
  | .cmpImm v => some (.imm v)
  | .cmpAbs v => some (.mem (.abs v))
  | .cmpIndy v => some (.mem (.indy v))
  | .cmpZpx v => some (.mem (.zpx v))
  | .cmpAbsy v => some (.mem (.absy v))
  | .cmpAbsx v => some (.mem (.absx v))
  | .cpxImm v => some (.imm v)
  | .cpxZp v => some (.mem (.zp v))
  | .cpxAbs v => some (.mem (.abs v))
  | .cpyImm v => some (.imm v)
  | .cpyZp v => some (.mem (.zp v))
  | .cpyAbs v => some (.mem (.abs v))
  | .eorIndx v => some (.mem (.indx v))
  | .eorZp v => some (.mem (.zp v))
  | .eorImm v => some (.imm v)
  | .eorAbs v => some (.mem (.abs v))
  | .eorIndy v => some (.mem (.indy v))
  | .eorZpx v => some (.mem (.zpx v))
  | .eorAbsy v => some (.mem (.absy v))
  | .eorAbsx v => some (.mem (.absx v))
  | .ldaIndx v => some (.mem (.indx v))
  | .ldaZp v => some (.mem (.zp v))
  | .ldaImm v => some (.imm v)
  | .ldaAbs v => some (.mem (.abs v))
  | .ldaIndy v => some (.mem (.indy v))
  | .ldaZpx v => some (.mem (.zpx v))
  | .ldaAbsy v => some (.mem (.absy v))
  | .ldaAbsx v => some (.mem (.absx v))
  | .ldxImm v => some (.imm v)
  | .ldxZp v => some (.mem (.zp v))
  | .ldxAbs v => some (.mem (.abs v))
  | .ldxZpy v => some (.mem (.zpy v))
  | .ldxAbsy v => some (.mem (.absy v))
  | .ldyImm v => some (.imm v)
  | .ldyZp v => some (.mem (.zp v))
  | .ldyAbs v => some (.mem (.abs v))
  | .ldyZpx v => some (.mem (.zpx v))
  | .ldyAbsx v => some (.mem (.absx v))
  | .oraIndx v => some (.mem (.indx v))
  | .oraZp v => some (.mem (.zp v))
  | .oraImm v => some (.imm v)
  | .oraAbs v => some (.mem (.abs v))
  | .oraIndy v => some (.mem (.indy v))
  | .oraZpx v => some (.mem (.zpx v))
  | .oraAbsy v => some (.mem (.absy v))
  | .oraAbsx v => some (.mem (.absx v))
  | .sbcIndx v => some (.mem (.indx v))
  | .sbcZp v => some (.mem (.zp v))
  | .sbcImm v => some (.imm v)
  | .sbcAbs v => some (.mem (.abs v))
  | .sbcIndy v => some (.mem (.indy v))
  | .sbcZpx v => some (.mem (.zpx v))
  | .sbcAbsy v => some (.mem (.absy v))
  | .sbcAbsx v => some (.mem (.absx v))
  | _ => none

/-- The place a store instruction writes. -/
def Instr.place : Instr → Option Place
  | .staIndx v => some (.indx v)
  | .staZp v => some (.zp v)
  | .staAbs v => some (.abs v)
  | .staIndy v => some (.indy v)
  | .staZpx v => some (.zpx v)
  | .staAbsy v => some (.absy v)
  | .staAbsx v => some (.absx v)
  | .stxZp v => some (.zp v)
  | .stxAbs v => some (.abs v)
  | .stxZpy v => some (.zpy v)
  | .styZp v => some (.zp v)
  | .styAbs v => some (.abs v)
  | .styZpx v => some (.zpx v)
  | _ => none

/-- What a read-modify-write instruction changes. -/
def Instr.target : Instr → Option Target
  | .aslZp v => some (.mem (.zp v))
  | .aslAcc => some .acc
  | .aslAbs v => some (.mem (.abs v))
  | .aslZpx v => some (.mem (.zpx v))
  | .aslAbsx v => some (.mem (.absx v))
  | .decZp v => some (.mem (.zp v))
  | .decAbs v => some (.mem (.abs v))
  | .decZpx v => some (.mem (.zpx v))
  | .decAbsx v => some (.mem (.absx v))
  | .incZp v => some (.mem (.zp v))
  | .incAbs v => some (.mem (.abs v))
  | .incZpx v => some (.mem (.zpx v))
  | .incAbsx v => some (.mem (.absx v))
  | .lsrZp v => some (.mem (.zp v))
  | .lsrAcc => some .acc
  | .lsrAbs v => some (.mem (.abs v))
  | .lsrZpx v => some (.mem (.zpx v))
  | .lsrAbsx v => some (.mem (.absx v))
  | .rolZp v => some (.mem (.zp v))
  | .rolAcc => some .acc
  | .rolAbs v => some (.mem (.abs v))
  | .rolZpx v => some (.mem (.zpx v))
  | .rolAbsx v => some (.mem (.absx v))
  | .rorZp v => some (.mem (.zp v))
  | .rorAcc => some .acc
  | .rorAbs v => some (.mem (.abs v))
  | .rorZpx v => some (.mem (.zpx v))
  | .rorAbsx v => some (.mem (.absx v))
  | _ => none

/-- The displacement of a conditional branch. -/
def Instr.displacement : Instr → Option Byte
  | .bcc disp => some disp
  | .bcs disp => some disp
  | .beq disp => some disp
  | .bmi disp => some disp
  | .bne disp => some disp
  | .bpl disp => some disp
  | .bvc disp => some disp
  | .bvs disp => some disp
  | _ => none

/-! ### Memory -/

/-- Every byte of memory reads as before. -/
def MemoryKept (s t : State) : Prop := ∀ a, t.mem.read a = s.mem.read a

/-- Every byte of memory outside some addresses reads as before. -/
def MemoryKeptBut (as : List Addr) (s t : State) : Prop := ∀ a, a ∉ as → t.mem.read a = s.mem.read a

/-- The instruction pushes onto one of its own bytes (R351): a JSR or a BRK in page $01 at the stack pointer. -/
def Instr.ontoItself (i : Instr) (s : State) : Bool :=
  match i with
  | .jsr _ => landsOnItself (callAddrs s.sp) 3 s
  | .brk => landsOnItself (frameAddrs s.sp) 1 s
  | _ => false

/-! ### Which addresses an instruction accesses (R57, D14) -/

/-- The addresses accessed for a place in memory: its pointer bytes and its effective address; and, where it is indexed,
the address with the page not yet corrected, which is accessed only if it is a register of a VIA (R57, log entry 18). -/
def placeAccesses (p : Place) (s : State) : List Addr :=
  let ea := (p.ea s).1
  match p with
  | .zp _ | .abs _ => [ea]
  | .zpx b | .zpy b => [uncorrected (zext b) ea, ea]
  | .absx addr | .absy addr => [uncorrected addr ea, ea]
  | .indx b => [zext (b + s.x), zext (b + s.x + 1), uncorrected ea ea, ea]
  | .indy b => [zext b, zext (b + 1), uncorrected (readPointer s b).1 ea, ea]

/-- The addresses an instruction accesses, or may access, besides those of its own bytes. -/
def Instr.accesses (i : Instr) (s : State) : List Addr :=
  match i.operand, i.place, i.target with
  | some (.mem p), _, _ | _, some p, _ | _, _, some (.mem p) => placeAccesses p s
  | _, _, _ =>
    match i with
    | .pha | .php => [stackAddr s.sp]
    | .pla | .plp => [stackAddr (s.sp + 1)]
    | .jsr _ => callAddrs s.sp
    | .rts => [stackAddr (s.sp + 1), stackAddr (s.sp + 2)]
    | .rti => [stackAddr (s.sp + 1), stackAddr (s.sp + 2), stackAddr (s.sp + 3)]
    | .brk => frameAddrs s.sp ++ [0xFFFE, 0xFFFF]
    | .jmpInd ptr =>
      match decide (loByte ptr = 0xFF), s.cfg.jmpIndWrap with
      | true, .samePage => [ptr, mkAddr (hiByte ptr) 0x00]
      | true, .free => [ptr]
      | _, _ => [ptr, ptr + 1]
    | _ => []

/-! ### Which instruction writes what (R21, R22, R23, R37, R57) -/

/-- The instructions that write N (R37). -/
def Op.writesN : Op → Bool
  | .adc | .sbc | .and | .eor | .ora | .asl | .rol | .lsr | .ror | .bit | .cmp | .cpx | .cpy | .dec | .dex | .dey
  | .inc | .inx | .iny | .lda | .ldx | .ldy | .pla | .tax | .tay | .tsx | .txa | .tya | .plp | .rti => true
  | _ => false

/-- The instructions that write V (R37). -/
def Op.writesV : Op → Bool
  | .adc | .sbc | .bit | .clv | .plp | .rti => true
  | _ => false

/-- The instructions that write B (R37). -/
def Op.writesB : Op → Bool
  | .brk | .plp | .rti => true
  | _ => false

/-- The instructions that write D (R37). -/
def Op.writesD : Op → Bool
  | .cld | .sed | .plp | .rti => true
  | _ => false

/-- The instructions that write I (R37). -/
def Op.writesI : Op → Bool
  | .cli | .sei | .brk | .plp | .rti => true
  | _ => false

/-- The instructions that write C (R37). -/
def Op.writesC : Op → Bool
  | .adc | .sbc | .asl | .rol | .lsr | .ror | .cmp | .cpx | .cpy | .clc | .sec | .plp | .rti => true
  | _ => false

/-- The instructions that write the accumulator (R21); a shift does so in accumulator mode only. -/
def Instr.writesA (i : Instr) : Bool :=
  match i.op with
  | .adc | .and | .eor | .ora | .sbc | .lda | .pla | .txa | .tya => true
  | .asl | .lsr | .rol | .ror => i.mode == .accumulator
  | _ => false

/-- The instructions that write X (R22). -/
def Op.writesX : Op → Bool
  | .ldx | .tax | .tsx | .dex | .inx => true
  | _ => false

/-- The instructions that write Y (R22). -/
def Op.writesY : Op → Bool
  | .ldy | .tay | .dey | .iny => true
  | _ => false

/-- The instructions that write SP (R23). -/
def Op.writesSp : Op → Bool
  | .pha | .php | .pla | .plp | .jsr | .rts | .brk | .rti | .txs => true
  | _ => false

/-- The instructions that write memory: stores, read-modify-write instructions in a memory mode, and pushes (R57). -/
def Instr.writesMemory (i : Instr) : Bool :=
  match i.op with
  | .sta | .stx | .sty | .inc | .dec | .pha | .php | .jsr | .brk => true
  | .asl | .lsr | .rol | .ror => i.mode != .accumulator
  | _ => false

/-! ### Operation codes -/

/-- The 105 byte values that Table II does not list (R103). -/
def unlistedCodes : List Byte :=
  [0x02, 0x03, 0x04, 0x07, 0x0B, 0x0C, 0x0F, 0x12, 0x13, 0x14, 0x17, 0x1A, 0x1B, 0x1C, 0x1F]
    ++ [0x22, 0x23, 0x27, 0x2B, 0x2F, 0x32, 0x33, 0x34, 0x37, 0x3A, 0x3B, 0x3C, 0x3F, 0x42, 0x43]
    ++ [0x44, 0x47, 0x4B, 0x4F, 0x52, 0x53, 0x54, 0x57, 0x5A, 0x5B, 0x5C, 0x5F, 0x62, 0x63, 0x64]
    ++ [0x67, 0x6B, 0x6F, 0x72, 0x73, 0x74, 0x77, 0x7A, 0x7B, 0x7C, 0x7F, 0x80, 0x82, 0x83, 0x87]
    ++ [0x89, 0x8B, 0x8F, 0x92, 0x93, 0x97, 0x9B, 0x9C, 0x9E, 0x9F, 0xA3, 0xA7, 0xAB, 0xAF, 0xB2]
    ++ [0xB3, 0xB7, 0xBB, 0xBF, 0xC2, 0xC3, 0xC7, 0xCB, 0xCF, 0xD2, 0xD3, 0xD4, 0xD7, 0xDA, 0xDB]
    ++ [0xDC, 0xDF, 0xE2, 0xE3, 0xE7, 0xEB, 0xEF, 0xF2, 0xF3, 0xF4, 0xF7, 0xFA, 0xFB, 0xFC, 0xFF]

/-! ### The figures of Table I (R359) -/

/-- Operation codes by the clock cycles that Table I gives them, without the adjustments of R356. -/
def cyclesOfTableOne : List (Nat × List Byte) :=
  [(2, [0x09, 0x0A, 0x10, 0x18, 0x29, 0x2A, 0x30, 0x38, 0x49, 0x4A, 0x50, 0x58, 0x69, 0x6A, 0x70, 0x78]),
   (2, [0x88, 0x8A, 0x90, 0x98, 0x9A, 0xA0, 0xA2, 0xA8, 0xA9, 0xAA, 0xB0, 0xB8, 0xBA, 0xC0, 0xC8, 0xC9]),
   (2, [0xCA, 0xD0, 0xD8, 0xE0, 0xE8, 0xE9, 0xEA, 0xF0, 0xF8]),
   (3, [0x05, 0x08, 0x24, 0x25, 0x45, 0x48, 0x4C, 0x65, 0x84, 0x85, 0x86, 0xA4, 0xA5, 0xA6, 0xC4, 0xC5]),
   (3, [0xE4, 0xE5]),
   (4, [0x0D, 0x15, 0x19, 0x1D, 0x28, 0x2C, 0x2D, 0x35, 0x39, 0x3D, 0x4D, 0x55, 0x59, 0x5D, 0x68, 0x6D]),
   (4, [0x75, 0x79, 0x7D, 0x8C, 0x8D, 0x8E, 0x94, 0x95, 0x96, 0xAC, 0xAD, 0xAE, 0xB4, 0xB5, 0xB6, 0xB9]),
   (4, [0xBC, 0xBD, 0xBE, 0xCC, 0xCD, 0xD5, 0xD9, 0xDD, 0xEC, 0xED, 0xF5, 0xF9, 0xFD]),
   (5, [0x06, 0x11, 0x26, 0x31, 0x46, 0x51, 0x66, 0x6C, 0x71, 0x99, 0x9D, 0xB1, 0xC6, 0xD1, 0xE6, 0xF1]),
   (6, [0x01, 0x0E, 0x16, 0x20, 0x21, 0x2E, 0x36, 0x40, 0x41, 0x4E, 0x56, 0x60, 0x61, 0x6E, 0x76, 0x81]),
   (6, [0x91, 0xA1, 0xC1, 0xCE, 0xD6, 0xE1, 0xEE, 0xF6]),
   (7, [0x00, 0x1E, 0x3E, 0x5E, 0x7E, 0xDE, 0xFE])]

/-! ### The invariant -/

/-- A VIA between two accesses: at most eight shifts are to come, and a disabled shift register has none to come and
holds its flag reset (R303, R304). -/
def viaOk (v : Via) : Prop :=
  v.shifter.left ≤ 8 ∧ (shiftMode v.acr = 0 → v.shifter.left = 0 ∧ v.flag srFlag = false)

/-- What every step keeps: memory is in canonical form, every VIA is as `viaOk` says, while RES is low the reset
sequence is due (R243), and no clock cycle of an earlier step is owed. -/
def StateInv (s : State) : Prop :=
  s.mem.wf ∧ (∀ v ∈ s.io.vias, viaOk v) ∧ (s.io.resLine = false → s.io.resetDue = true) ∧ s.io.owed = 0

/-- The base addresses of the VIAs (`VIA_BASE`). -/
def bases (s : State) : List Addr := s.io.vias.map Via.base

end Sys2Proof
end

