-- ==== Sys2Proof/Certificates/Slice0/Obligations.lean ====
section
/-! DEFINITION. The statements for the provers. A statement about an instruction with an operand speaks of the operand
as the meaning finds it (`Operand.read`, `Place.ea`, `busRead`); what those answer in memory is stated on its own. Where
such an operand is indexed, or read and written back, and lies in a register of a VIA, further accesses of the register,
free in number and kind, may come first (`Place.ea`, `unlistedAccesses`): R57 has such an access unspecified, and that
these are what the model leaves open is its choice (log entry 18). -/

section

open Sys2Proof Sys2Proof.Machine

/-! ### Encoding -/

/-- R80 to R82, R100, R104: decoding the bytes of any instruction, whatever follows them, gives it back with every
operand at every value. -/
def Obligations.DecodeOfEncode : Prop :=
  ∀ (i : Instr) (rest : List Byte), i.wellFormed = true → decode (encode i ++ rest) = .ok (i, rest)

/-- R81, R82, R100: bytes that decode are the bytes of the instruction they decode to, as many as its mode says. -/
def Obligations.EncodeOfDecode : Prop :=
  ∀ (bytes : List Byte) (i : Instr) (rest : List Byte), decode bytes = .ok (i, rest) →
    bytes = encode i ++ rest ∧ (encode i).length = i.mode.length

/-- The source's own machine code (R80, R85 to R96): words written out from the encoding decode to the instructions
the source gives for them. -/
def Obligations.DecodeOfWrittenWords : Prop :=
  decode [0b10100010, 0b11111111] = .ok (.ldxImm 0xFF, []) ∧
  decode [0b10101001, 0b10011010] = .ok (.ldaImm 0x9A, []) ∧
  decode [0b10101101, 0b01010101, 0b00100000] = .ok (.ldaAbs 0x2055, []) ∧
  decode [0b01001100, 0b00100000, 0b00110000] = .ok (.jmpAbs 0x3020, []) ∧
  decode [0b10111101, 0b00111010, 0b10010000] = .ok (.ldaAbsx 0x903A, []) ∧
  decode [0b00011000] = .ok (.clc, []) ∧
  decode [0b00101010] = .ok (.rolAcc, []) ∧
  decode [0b11110000, 0b00000110] = .ok (.beq 0x06, []) ∧
  decode [0b01001000, 0b01101000] = .ok (.pha, [0x68])

/-- R103 with the spec's decision D7 (log entry 19): the 105 values outside Table II, and no others, are not
instructions: the decoder says so and a step that fetches one from memory has no next state. -/
def Obligations.UnlistedCodesHaveNoMeaning : Prop :=
  (∀ op : Byte, (opcodeForm op = none ↔ op ∈ unlistedCodes)) ∧
  (∀ op ∈ unlistedCodes, ∀ rest, decode (op :: rest) = .error (.unlistedOpcode op)) ∧
  (∀ s, boundary (arrive s) = .run → (arrive s).isMemory s.pc = true → s.mem.read s.pc ∈ unlistedCodes →
    step s = .refused (.unlistedOpcode (s.mem.read s.pc)))

/-! ### Addressing modes and memory -/

/-- R88 to R92: the effective addresses that need no pointer. On page $00 sums are taken modulo 256; the absolute
indexed sums modulo 65536 (decision D3, log entry 17). No byte is read to form them, but that an indexed address that
lies in a VIA, or does so before its page is corrected, may be accessed first (R57, log entry 18); memory and the
registers stay even then. -/
def Obligations.EffectiveAddresses : Prop :=
  ∀ (s : State) (zp : Byte) (addr : Addr),
    ((Place.zp zp).ea s).1.toNat = zp.toNat ∧
    ((Place.zpx zp).ea s).1.toNat = (zp.toNat + s.x.toNat) % 256 ∧
    ((Place.zpy zp).ea s).1.toNat = (zp.toNat + s.y.toNat) % 256 ∧
    ((Place.abs addr).ea s).1 = addr ∧
    ((Place.absx addr).ea s).1.toNat = (addr.toNat + s.x.toNat) % 65536 ∧
    ((Place.absy addr).ea s).1.toNat = (addr.toNat + s.y.toNat) % 65536 ∧
    ((Place.zp zp).ea s).2 = s ∧ ((Place.abs addr).ea s).2 = s ∧
    (∀ p ∈ [Place.zpx zp, Place.zpy zp, Place.absx addr, Place.absy addr],
      ((∀ a ∈ placeAccesses p s, s.io.claims a = false) → (p.ea s).2 = s) ∧
      (p.ea s).2 = { s with io := (p.ea s).2.io })

/-- R94, R95 with decisions D3 and D4 (log entry 17): the effective addresses through a pointer on page $00, both of
whose bytes are on page $00, low-order byte first; where the pointer is memory and no VIA is among the addresses
accessed (R57, log entry 18), forming the address changes nothing. -/
def Obligations.PointerAddresses : Prop :=
  ∀ (s : State) (zp : Byte),
    (s.isMemory (zext (zp + s.x)) = true → s.isMemory (zext (zp + s.x + 1)) = true →
      ((Place.indx zp).ea s).1.toNat =
        (s.mem.read (zext (zp + s.x))).toNat + 256 * (s.mem.read (zext (zp + s.x + 1))).toNat ∧
      ((∀ a ∈ placeAccesses (.indx zp) s, s.io.claims a = false) → ((Place.indx zp).ea s).2 = s)) ∧
    (s.isMemory (zext zp) = true → s.isMemory (zext (zp + 1)) = true →
      ((Place.indy zp).ea s).1.toNat =
        ((s.mem.read (zext zp)).toNat + 256 * (s.mem.read (zext (zp + 1))).toNat + s.y.toNat) % 65536 ∧
      ((∀ a ∈ placeAccesses (.indy zp) s, s.io.claims a = false) → ((Place.indy zp).ea s).2 = s))

/-- R56, R57, R60, R83, R87 (D18, log entry 24): an immediate operand is the instruction's own byte; an operand in RAM
or ROM is the byte stored at the effective address, and reading it changes nothing; a bus read changes nothing but the
lines and devices. A byte written to RAM is read back; no write changes another byte; a write to ROM or to an address
with nothing attached changes nothing; a write keeps the canonical form of memory. The accesses that no rule lists
happen only at an address a VIA claims, and there change nothing but the lines and devices (R57, log entry 18). -/
def Obligations.MemoryAccesses : Prop :=
  (∀ (b : Byte) (s : State), (Operand.imm b).read s = (b, s)) ∧
  (∀ (p : Place) (s : State), (p.ea s).2 = s → s.isMemory (p.ea s).1 = true →
    (Operand.mem p).read s = (s.mem.read (p.ea s).1, s)) ∧
  (∀ (s : State) (a : Addr), ∃ io, (busRead s a).2 = { s with io := io }) ∧
  (∀ (s : State) (a : Addr) (b : Byte),
    (s.isRam a = true → busRead (busWrite s a b) a = (b, busWrite s a b)) ∧
    (∀ c, c ≠ a → (busWrite s a b).mem.read c = s.mem.read c) ∧
    (s.io.claims a = false → s.isRam a = false → busWrite s a b = s) ∧
    (s.mem.wf → (busWrite s a b).mem.wf)) ∧
  (∀ (w : Bool) (a : Addr) (s : State),
    (s.io.claims a = false → unlistedAccesses w a s = s) ∧
    unlistedAccesses w a s = { s with io := (unlistedAccesses w a s).io })

/-! ### The machine -/

/-- R24, R54, R243: when the boundary calls for an instruction, a step runs the instruction whose bytes stand in
memory at the program counter, after its clock cycles are charged, and settles the clock of the VIAs afterwards; where
time is free the step is the instruction alone, and its cycles are counted. Under `VIA_TIME` = `cycles` (R285, D26), an
environment that does nothing and an instruction none of whose accesses is at a VIA and that does not push onto itself
(R351), every VIA counts exactly the cycles of the instruction, one clock pulse each, and sees nothing else (of an
indexed operand the address before its page is corrected counts as accessed, log entry 18). Charging and settling are
the model's (log entries 26 and 28). -/
def Obligations.StepRunsTheDecodedInstruction : Prop :=
  ∀ (s : State) (i : Instr) (rest : List Byte),
    boundary (arrive s) = .run →
    (∀ k, k < i.length → (arrive s).isMemory (s.pc + BitVec.ofNat 16 k) = true) →
    decode [s.mem.read s.pc, s.mem.read (s.pc + 1), s.mem.read (s.pc + 2)] = .ok (i, rest) →
    i.wellFormed = true →
    step s = finish (exec i (ready i (arrive s))) ∧
    (s.cfg.viaTime = .free →
      step s = exec i { arrive s with cycles := s.cycles + instrCycles i (arrive s) }) ∧
    (s.cfg.viaTime = .cycles → s.io.env = [] → (∀ a ∈ i.accesses s, s.io.claims a = false) →
      i.ontoItself s = false →
      ∃ t, step s = .next t ∧ t.io.vias = s.io.vias.map (Via.ticks (instrCycles i s)) ∧
        t.cycles = s.cycles + instrCycles i s ∧ t.io.owed = 0)

/-- R243, R244 (D16, log entries 20 and 23): what a step is at each boundary: nothing while RES is low, then reset
before NMI before IRQ before the next instruction. The clock pulses that `sequenceClock` gives the VIAs after the
three sequences are the model's choice (log entry 27). -/
def Obligations.StepChoosesByPriority : Prop :=
  ∀ s : State,
    let r := arrive s
    (r.io.resLine = false → step s = .next r) ∧
    (r.io.resLine = true → r.io.resetDue = true → step s = .next (sequenceClock (resetSequence r))) ∧
    (r.io.resLine = true → r.io.resetDue = false → r.io.nmiPending = true →
      step s = .next (sequenceClock (nmiSequence r))) ∧
    (r.io.resLine = true → r.io.resetDue = false → r.io.nmiPending = false → r.io.irqLow = true → r.p.i = false →
      step s = .next (sequenceClock (irqSequence r))) ∧
    (r.io.resLine = true → r.io.resetDue = false → r.io.nmiPending = false →
      (r.io.irqLow = false ∨ r.p.i = true) → step s = runInstruction r)

/-- Every step keeps the invariant `StateInv`: canonical memory, VIAs whose shift count and flag fit their mode, the
reset sequence due while RES is low, no clock cycle owed. The invariant is the model's own. -/
def Obligations.StepKeepsInvariant : Prop :=
  ∀ s t : State, StateInv s → step s = .next t → StateInv t

/-- The machine after reset meets the invariant. -/
def Obligations.ResetMeetsInvariant : Prop := StateInv State.reset

/-- R8, R41: the parameters of the system and the addresses of its VIAs are fixed: no step changes them (log entry 7).
-/
def Obligations.StepKeepsThePlatform : Prop :=
  ∀ s t : State, step s = .next t → t.cfg = s.cfg ∧ bases t = bases s

/-- R242, R351 (D7, D14): no instruction faults; every instruction completes, but for a JSR or a BRK one of whose pushes
lands on one of its own bytes, and that one is refused; no step faults, and a step refuses nothing else than this and an
operation code that Table II does not list (R103). That the open cases of decimal mode and JMP (indirect) complete is
the model's choice (log entries 13 and 14), and so is that an indexed or read-modify-write access at a VIA is left
unspecified in its further accesses and not refused, as R57 allows (log entry 18). -/
def Obligations.NothingFaults : Prop :=
  (∀ (i : Instr) (s : State), i.ontoItself s = false → ∃ t, exec i s = .next t) ∧
  (∀ (i : Instr) (s : State), i.ontoItself s = true → exec i s = .refused (.ontoItself s.pc)) ∧
  (∀ (i : Instr) (s : State), i.ontoItself s = true ↔
    (i.op = .jsr ∧ ∃ a ∈ [s.pc, s.pc + 1, s.pc + 2], a ∈ [stackAddr s.sp, stackAddr (s.sp - 1)]) ∨
    (i = .brk ∧ s.pc ∈ [stackAddr s.sp, stackAddr (s.sp - 1), stackAddr (s.sp - 2)])) ∧
  (∀ (s : State) (r : Fault), step s ≠ .fault r) ∧
  (∀ (s : State) (r : Refusal), step s = .refused r →
    (∃ op ∈ unlistedCodes, r = .unlistedOpcode op) ∨ r = .ontoItself s.pc)

/-- R191, R245, R340: the input lines, the NMI latch and the due reset. No instruction changes them; the environment
does, whose next events happen at each boundary (log entry 9). A level on NMI sets the latch exactly on a transition
from high to low, whatever it was; so after any levels one after the other it is set exactly when it was before or there
was such a transition, one or several (D21, log entry 21). RES low, however short, makes the reset sequence due (log
entry 23); the level of IRQ is not remembered; no other event changes any of them. -/
def Obligations.InstructionsLeaveTheLines : Prop :=
  (∀ (i : Instr) (s t : State), s.io.env = [] → exec i s = .next t →
    t.io.nmiPending = s.io.nmiPending ∧ t.io.resetDue = s.io.resetDue ∧ t.io.irqLine = s.io.irqLine ∧
    t.io.nmiLine = s.io.nmiLine ∧ t.io.resLine = s.io.resLine) ∧
  (∀ s : State, (s.io.env = [] → arrive s = s) ∧
    (∀ es rest, s.io.env = es :: rest →
      arrive s = { s with io := es.foldl (Io.event s.cfg) { s.io with env := rest } })) ∧
  (∀ (cfg : Config) (io : Io) (high : Bool),
    io.event cfg (.nmi high) =
      { io with nmiLine := high, nmiPending := io.nmiPending || (io.nmiLine && !high) } ∧
    io.event cfg (.res high) = { io with resLine := high, resetDue := io.resetDue || !high } ∧
    io.event cfg (.irq high) = { io with irqLine := high }) ∧
  (∀ (cfg : Config) (io : Io) (levels : List Bool),
    (levels.foldl (fun j high => j.event cfg (.nmi high)) io).nmiPending = true ↔
      io.nmiPending = true ∨ ∃ before after, io.nmiLine :: levels = before ++ true :: false :: after) ∧
  (∀ (cfg : Config) (io : Io) (e : EnvEvent), (∀ high, e ≠ .nmi high ∧ e ≠ .res high ∧ e ≠ .irq high) →
    let j := io.event cfg e
    j.nmiPending = io.nmiPending ∧ j.resetDue = io.resetDue ∧ j.irqLine = io.irqLine ∧ j.nmiLine = io.nmiLine ∧
    j.resLine = io.resLine)

/-- R37: an instruction changes no flag but those the table of R37 lists for it. -/
def Obligations.FlagsWrittenByWhom : Prop :=
  ∀ (i : Instr) (s t : State), exec i s = .next t →
    (i.op.writesN = false → t.p.n = s.p.n) ∧ (i.op.writesV = false → t.p.v = s.p.v) ∧
    (i.op.writesB = false → t.p.b = s.p.b) ∧ (i.op.writesD = false → t.p.d = s.p.d) ∧
    (i.op.writesI = false → t.p.i = s.p.i) ∧ (i.op.writesN = false → t.p.z = s.p.z) ∧
    (i.op.writesC = false → t.p.c = s.p.c)

/-- R21, R22, R23, R57: an instruction changes no register but those the rules list for it, and no parameter; one that
is no store, no read-modify-write instruction on memory and no push leaves every byte of memory as it was. -/
def Obligations.RegistersAndMemoryWrittenByWhom : Prop :=
  ∀ (i : Instr) (s t : State), exec i s = .next t →
    (i.writesA = false → t.a = s.a) ∧ (i.op.writesX = false → t.x = s.x) ∧ (i.op.writesY = false → t.y = s.y) ∧
    (i.op.writesSp = false → t.sp = s.sp) ∧ t.cfg = s.cfg ∧ t.cycles = s.cycles ∧
    (i.writesMemory = false → MemoryKept s t)

/-! ### Loads, stores and transfers -/

/-- R200, R201, R202: LDA, LDX and LDY load their operand and set N and Z from it; nothing else changes but what
reading the operand does to the lines and devices (at a VIA through an index, further reads may come first: R57, log
entry 18). -/
def Obligations.LoadsLoadTheirOperand : Prop :=
  ∀ (i : Instr) (o : Operand) (s : State), i.operand = some o →
    let m := o.read s
    let p := { s.p with n := m.1.getLsbD 7, z := decide (m.1 = 0) }
    let pc := s.pc + BitVec.ofNat 16 i.length
    (i.op = .lda → ∃ t, exec i s = .next t ∧ MemoryKept s t ∧
      t = { s with a := m.1, p := p, pc := pc, io := m.2.io }) ∧
    (i.op = .ldx → ∃ t, exec i s = .next t ∧ MemoryKept s t ∧
      t = { s with x := m.1, p := p, pc := pc, io := m.2.io }) ∧
    (i.op = .ldy → ∃ t, exec i s = .next t ∧ MemoryKept s t ∧
      t = { s with y := m.1, p := p, pc := pc, io := m.2.io })

/-- R203, R204, R205: STA, STX and STY write their register at the effective address, which they do not read: the next
state is that of the bus write there, be it RAM, ROM, a register of a VIA or nothing, with the program counter moved on;
no flag and no register changes, and no byte of memory elsewhere. In RAM the byte is then there and the devices are as
forming the address left them; outside RAM memory is kept. Before an indexed store to a VIA, forming the address may
read the register (R57, log entry 18). -/
def Obligations.StoresStoreTheirRegister : Prop :=
  ∀ (i : Instr) (p : Place) (s : State) (b : Byte), i.place = some p →
    (i.op = .sta ∧ b = s.a ∨ i.op = .stx ∧ b = s.x ∨ i.op = .sty ∧ b = s.y) →
    let e := p.ea s
    ∃ t, exec i s = .next t ∧
      t = { busWrite e.2 e.1 b with pc := s.pc + BitVec.ofNat 16 i.length } ∧
      t = { s with pc := s.pc + BitVec.ofNat 16 i.length, mem := t.mem, io := t.io } ∧
      MemoryKeptBut [e.1] s t ∧
      (e.2.isRam e.1 = true → t.mem.read e.1 = b ∧ t.io = e.2.io) ∧
      (e.2.isRam e.1 = false → MemoryKept s t)

/-- R206 to R211: the six transfers; TXS alone sets no flag; one byte and two cycles each. -/
def Obligations.TransfersMoveARegister : Prop :=
  ∀ s : State,
    exec .tax s =
      .next { s with x := s.a, p := { s.p with n := s.a.getLsbD 7, z := decide (s.a = 0) }, pc := s.pc + 1 } ∧
    exec .tay s =
      .next { s with y := s.a, p := { s.p with n := s.a.getLsbD 7, z := decide (s.a = 0) }, pc := s.pc + 1 } ∧
    exec .tsx s =
      .next { s with x := s.sp, p := { s.p with n := s.sp.getLsbD 7, z := decide (s.sp = 0) }, pc := s.pc + 1 } ∧
    exec .txa s =
      .next { s with a := s.x, p := { s.p with n := s.x.getLsbD 7, z := decide (s.x = 0) }, pc := s.pc + 1 } ∧
    exec .tya s =
      .next { s with a := s.y, p := { s.p with n := s.y.getLsbD 7, z := decide (s.y = 0) }, pc := s.pc + 1 } ∧
    exec .txs s = .next { s with sp := s.x, pc := s.pc + 1 } ∧
    (∀ e ∈ [(Instr.tax, (0xAA : Byte)), (.tay, 0xA8), (.tsx, 0xBA), (.txa, 0x8A), (.tya, 0x98), (.txs, 0x9A)],
      encode e.1 = [e.2] ∧ instrCycles e.1 s = 2)

/-! ### Arithmetic -/

/-- R120: ADC in binary mode. Carry and accumulator together are the sum of the accumulator, the operand and the
carry; V says that the signed sum is outside -128..127; N and Z are those of the result; nothing else changes (at a VIA
through an index, further reads may come first: R57, log entry 18). -/
def Obligations.AdcInBinaryMode : Prop :=
  ∀ (i : Instr) (o : Operand) (s : State), i.op = .adc → i.operand = some o → s.p.d = false →
    let m := o.read s
    ∃ t, exec i s = .next t ∧ MemoryKept s t ∧
      t = { s with
            a := t.a, p := { s.p with n := t.p.n, v := t.p.v, z := t.p.z, c := t.p.c }
            pc := s.pc + BitVec.ofNat 16 i.length, io := m.2.io } ∧
      256 * bitNat t.p.c + t.a.toNat = s.a.toNat + m.1.toNat + bitNat s.p.c ∧
      (t.p.v = true ↔ (s.a.toInt + m.1.toInt + bitNat s.p.c < -128 ∨ 127 < s.a.toInt + m.1.toInt + bitNat s.p.c)) ∧
      t.p.n = t.a.getLsbD 7 ∧ t.p.z = decide (t.a = 0)

/-- R131: SBC in binary mode. The accumulator, with 256 taken off when there is a borrow, is the accumulator less the
operand less the complement of the carry; V says that the signed difference is outside -128..127; N and Z are those of
the result; nothing else changes (at a VIA through an index, further reads may come first: R57, log entry 18). -/
def Obligations.SbcInBinaryMode : Prop :=
  ∀ (i : Instr) (o : Operand) (s : State), i.op = .sbc → i.operand = some o → s.p.d = false →
    let m := o.read s
    let borrow : Int := 1 - bitNat s.p.c
    ∃ t, exec i s = .next t ∧ MemoryKept s t ∧
      t = { s with
            a := t.a, p := { s.p with n := t.p.n, v := t.p.v, z := t.p.z, c := t.p.c }
            pc := s.pc + BitVec.ofNat 16 i.length, io := m.2.io } ∧
      (t.a.toNat : Int) - 256 * (1 - bitNat t.p.c) = s.a.toNat - m.1.toNat - borrow ∧
      (t.p.v = true ↔ (s.a.toInt - m.1.toInt - borrow < -128 ∨ 127 < s.a.toInt - m.1.toInt - borrow)) ∧
      t.p.n = t.a.getLsbD 7 ∧ t.p.z = decide (t.a = 0)

/-- R130 with decision D8 (log entry 13): ADC and SBC in decimal mode complete on every operand and change nothing but
A, N, V, Z and C; on two valid decimal operands A and C are the decimal sum or difference (at a VIA through an index,
further reads may come first: R57, log entry 18). -/
def Obligations.DecimalArithmetic : Prop :=
  ∀ (i : Instr) (o : Operand) (s : State), (i.op = .adc ∨ i.op = .sbc) → i.operand = some o → s.p.d = true →
    let m := o.read s
    ∃ t, exec i s = .next t ∧ MemoryKept s t ∧
      t = { s with
            a := t.a, p := { s.p with n := t.p.n, v := t.p.v, z := t.p.z, c := t.p.c }
            pc := s.pc + BitVec.ofNat 16 i.length, io := { m.2.io with draws := t.io.draws } } ∧
      (validBcd s.a = true → validBcd m.1 = true → validBcd t.a = true ∧
        (i.op = .adc → bcdVal t.a + 100 * bitNat t.p.c = bcdVal s.a + bcdVal m.1 + bitNat s.p.c) ∧
        (i.op = .sbc → (bcdVal t.a : Int) - 100 * (1 - bitNat t.p.c) =
          bcdVal s.a - bcdVal m.1 - (1 - bitNat s.p.c)))

/-- R121, R122, R123, R130: CMP, CPX and CPY write N, Z and C from an unsigned comparison, whatever C and D hold, and
change nothing else (at a VIA through an index, further reads may come first: R57, log entry 18). -/
def Obligations.ComparisonsSetFlags : Prop :=
  ∀ (i : Instr) (o : Operand) (s : State) (reg : Byte), i.operand = some o →
    (i.op = .cmp ∧ reg = s.a ∨ i.op = .cpx ∧ reg = s.x ∨ i.op = .cpy ∧ reg = s.y) →
    let m := o.read s
    ∃ t, exec i s = .next t ∧ MemoryKept s t ∧
      t = { s with
            p := { s.p with n := (reg - m.1).getLsbD 7, z := decide (reg = m.1), c := decide (m.1.toNat ≤ reg.toNat) }
            pc := s.pc + BitVec.ofNat 16 i.length, io := m.2.io }

/-- R124, R127: INC and DEC read the byte at the effective address once and write it back, one more or one less modulo
256, once at the same address: the next state is that of the bus write, be it to RAM, ROM, a register of a VIA or
nothing, with N and Z of the result and the program counter moved on; nothing else changes. At a VIA, and nowhere else,
further accesses of the register may come between the read and the write (`unlistedAccesses`: R57, log entry 18). -/
def Obligations.IncDecChangeMemory : Prop :=
  ∀ (i : Instr) (p : Place) (s : State) (r : Byte), i.target = some (.mem p) →
    let e := p.ea s
    let m := busRead e.2 e.1
    (i.op = .inc ∧ r.toNat = (m.1.toNat + 1) % 256 ∨ i.op = .dec ∧ r.toNat = (m.1.toNat + 255) % 256) →
    ∃ t, exec i s = .next t ∧
      t = { busWrite (unlistedAccesses true e.1 m.2) e.1 r with
            p := { s.p with n := r.getLsbD 7, z := decide (r = 0) }, pc := s.pc + BitVec.ofNat 16 i.length } ∧
      t = { s with p := t.p, pc := t.pc, mem := t.mem, io := t.io } ∧
      MemoryKeptBut [e.1] s t ∧
      (m.2.isRam e.1 = true → t.mem.read e.1 = r ∧ t.io = m.2.io) ∧
      (m.2.isRam e.1 = false → MemoryKept s t)

/-- R125, R126, R128, R129: INX, INY, DEX and DEY; one byte and two cycles each. -/
def Obligations.IndexSteps : Prop :=
  ∀ s : State,
    exec .inx s = .next { s with
      x := s.x + 1, p := { s.p with n := (s.x + 1).getLsbD 7, z := decide (s.x = 0xFF) }, pc := s.pc + 1 } ∧
    exec .iny s = .next { s with
      y := s.y + 1, p := { s.p with n := (s.y + 1).getLsbD 7, z := decide (s.y = 0xFF) }, pc := s.pc + 1 } ∧
    exec .dex s = .next { s with
      x := s.x - 1, p := { s.p with n := (s.x - 1).getLsbD 7, z := decide (s.x = 0x01) }, pc := s.pc + 1 } ∧
    exec .dey s = .next { s with
      y := s.y - 1, p := { s.p with n := (s.y - 1).getLsbD 7, z := decide (s.y = 0x01) }, pc := s.pc + 1 } ∧
    (∀ e ∈ [(Instr.inx, (0xE8 : Byte)), (.iny, 0xC8), (.dex, 0xCA), (.dey, 0x88)],
      encode e.1 = [e.2] ∧ instrCycles e.1 s = 2)

/-! ### Logic and shifts -/

/-- R140, R142, R143, R145: AND, EOR and ORA write A, N and Z; BIT writes Z from the conjunction, N and V from bits 7
and 6 of the operand, and no register; nothing else changes (at a VIA through an index, further reads may come first:
R57, log entry 18). -/
def Obligations.LogicAndBitTest : Prop :=
  ∀ (i : Instr) (o : Operand) (s : State), i.operand = some o →
    let m := o.read s
    let pc := s.pc + BitVec.ofNat 16 i.length
    (∀ r, (i.op = .and ∧ r = s.a &&& m.1 ∨ i.op = .eor ∧ r = s.a ^^^ m.1 ∨ i.op = .ora ∧ r = s.a ||| m.1) →
      ∃ t, exec i s = .next t ∧ MemoryKept s t ∧
        t = { s with
              a := r, p := { s.p with n := r.getLsbD 7, z := decide (r = 0) }, pc := pc, io := m.2.io }) ∧
    (i.op = .bit →
      ∃ t, exec i s = .next t ∧ MemoryKept s t ∧
        t = { s with
              p := { s.p with n := m.1.getLsbD 7, v := m.1.getLsbD 6, z := decide (s.a &&& m.1 = 0) }
              pc := pc, io := m.2.io })

/-- R141, R144, R146, R147 with the laws of R148: the shifts and rotates of the accumulator. -/
def Obligations.ShiftsOfTheAccumulator : Prop :=
  ∀ s : State,
    let after (t : State) : Prop :=
      t = { s with
            a := t.a, p := { s.p with n := t.a.getLsbD 7, z := decide (t.a = 0), c := t.p.c }, pc := s.pc + 1 }
    (∃ t, exec .aslAcc s = .next t ∧ after t ∧ 256 * bitNat t.p.c + t.a.toNat = 2 * s.a.toNat) ∧
    (∃ t, exec .lsrAcc s = .next t ∧ after t ∧ 2 * t.a.toNat + bitNat t.p.c = s.a.toNat ∧ t.p.n = false) ∧
    (∃ t, exec .rolAcc s = .next t ∧ after t ∧
      256 * bitNat t.p.c + t.a.toNat = 2 * s.a.toNat + bitNat s.p.c) ∧
    (∃ t, exec .rorAcc s = .next t ∧ after t ∧
      2 * t.a.toNat + bitNat t.p.c = s.a.toNat + 256 * bitNat s.p.c)

/-- R141, R144, R146, R147 with the laws of R148: the shifts and rotates of the byte at the effective address, read
once and written back once at the same address: the next state is that of the bus write, be it to RAM, ROM, a register
of a VIA or nothing, with N, Z and C and the program counter moved on; nothing else changes. At a VIA, and nowhere else,
further accesses of the register may come between the read and the write (`unlistedAccesses`: R57, log entry 18). -/
def Obligations.ShiftsOfMemory : Prop :=
  ∀ (i : Instr) (p : Place) (s : State), i.target = some (.mem p) → i.op ≠ .inc → i.op ≠ .dec →
    let e := p.ea s
    let m := busRead e.2 e.1
    ∃ (t : State) (r : Byte), exec i s = .next t ∧
      t = { busWrite (unlistedAccesses true e.1 m.2) e.1 r with
            p := { s.p with n := r.getLsbD 7, z := decide (r = 0), c := t.p.c }
            pc := s.pc + BitVec.ofNat 16 i.length } ∧
      t = { s with p := t.p, pc := t.pc, mem := t.mem, io := t.io } ∧
      (i.op = .asl → 256 * bitNat t.p.c + r.toNat = 2 * m.1.toNat) ∧
      (i.op = .lsr → 2 * r.toNat + bitNat t.p.c = m.1.toNat) ∧
      (i.op = .rol → 256 * bitNat t.p.c + r.toNat = 2 * m.1.toNat + bitNat s.p.c) ∧
      (i.op = .ror → 2 * r.toNat + bitNat t.p.c = m.1.toNat + 256 * bitNat s.p.c) ∧
      MemoryKeptBut [e.1] s t ∧
      (m.2.isRam e.1 = true → t.mem.read e.1 = r ∧ t.io = m.2.io) ∧
      (m.2.isRam e.1 = false → MemoryKept s t)

/-- R146, R147, R148 (e): ROL and ROR undo each other on the operand and the carry. -/
def Obligations.RotatesAreInverse : Prop :=
  ∀ (m : Byte) (c : Bool),
    Shift.ror.result (Shift.rol.carryOut m) (Shift.rol.result c m) = m ∧
    Shift.ror.carryOut (Shift.rol.result c m) = c ∧
    Shift.rol.result (Shift.ror.carryOut m) (Shift.ror.result c m) = m ∧
    Shift.rol.carryOut (Shift.ror.result c m) = c

/-! ### Branches, jumps and subroutines -/

/-- R161 to R168, R172: a conditional branch goes to the next instruction, or by its signed displacement from there
when its flag has the value it asks for; nothing else changes. -/
def Obligations.BranchesTestOneFlag : Prop :=
  ∀ (i : Instr) (disp : Byte) (s : State), i.displacement = some disp →
    ∃ (t : State) (taken : Bool), exec i s = .next t ∧ t = { s with pc := t.pc } ∧ MemoryKept s t ∧
      (t.pc.toNat : Int) = (s.pc.toNat + 2 + (if taken then disp.toInt else 0)) % 65536 ∧
      (i.op = .bcc → taken = !s.p.c) ∧ (i.op = .bcs → taken = s.p.c) ∧
      (i.op = .bne → taken = !s.p.z) ∧ (i.op = .beq → taken = s.p.z) ∧
      (i.op = .bpl → taken = !s.p.n) ∧ (i.op = .bmi → taken = s.p.n) ∧
      (i.op = .bvc → taken = !s.p.v) ∧ (i.op = .bvs → taken = s.p.v)

/-- R93, R169 (D5): JMP loads the program counter and changes nothing else but the devices it may read. The absolute
form takes its operand; the indirect form the two bytes at the pointer, and where the pointer's low byte is `$FF` the
high byte is where `JMP_IND_WRAP` says, the low byte being at the pointer in every case: that it completes where the
spec recommends to refuse is the model's choice (log entry 14). -/
def Obligations.JumpsLoadTheProgramCounter : Prop :=
  (∀ (addr : Addr) (s : State), exec (.jmpAbs addr) s = .next { s with pc := addr }) ∧
  (∀ (ptr : Addr) (s : State), ∃ t, exec (.jmpInd ptr) s = .next t ∧ t = { s with pc := t.pc, io := t.io } ∧
    MemoryKept s t ∧
    (s.isMemory ptr = true → s.isMemory (ptr + 1) = true → loByte ptr ≠ 0xFF →
      t = { s with pc := mkAddr (s.mem.read (ptr + 1)) (s.mem.read ptr) }) ∧
    (s.isMemory ptr = true → s.isMemory (ptr + 1) = true → loByte ptr = 0xFF → s.cfg.jmpIndWrap = .next →
      t = { s with pc := mkAddr (s.mem.read (ptr + 1)) (s.mem.read ptr) }) ∧
    (s.isMemory ptr = true → s.isMemory (ptr - 0xFF) = true → loByte ptr = 0xFF → s.cfg.jmpIndWrap = .samePage →
      t = { s with pc := mkAddr (s.mem.read (ptr - 0xFF)) (s.mem.read ptr) }) ∧
    (s.isMemory ptr = true → loByte ptr = 0xFF → loByte t.pc = s.mem.read ptr))

/-- R170, R351 (D14): JSR pushes the address of its last byte, high-order byte first, and jumps to its operand; nothing
else changes, and where the two stack bytes are RAM nothing at all of the lines and devices. A JSR one of whose pushes
lands on one of its own bytes is refused, as the spec decides (log entry 15). -/
def Obligations.JsrPushesAndJumps : Prop :=
  ∀ (addr : Addr) (s : State),
    let pushed := [stackAddr s.sp, stackAddr (s.sp - 1)]
    let own := [s.pc, s.pc + 1, s.pc + 2]
    ((∀ a ∈ own, a ∉ pushed) →
      ∃ t, exec (.jsr addr) s = .next t ∧
        t = { s with pc := addr, sp := s.sp - 2, mem := t.mem, io := t.io } ∧
        MemoryKeptBut pushed s t ∧
        (s.isRam (stackAddr s.sp) = true → s.isRam (stackAddr (s.sp - 1)) = true →
          t.mem.read (stackAddr s.sp) = hiByte (s.pc + 2) ∧ t.mem.read (stackAddr (s.sp - 1)) = loByte (s.pc + 2) ∧
          t.io = s.io)) ∧
    (∀ a ∈ own, a ∈ pushed → exec (.jsr addr) s = .refused (.ontoItself s.pc))

/-- R171: RTS pulls an address, low-order byte first, and goes to the address after it; nothing else changes but what
reading the stack does to devices, and nothing at all where the stack is memory. -/
def Obligations.RtsPullsAndAddsOne : Prop :=
  ∀ s : State, ∃ t, exec .rts s = .next t ∧ t = { s with pc := t.pc, sp := s.sp + 2, io := t.io } ∧
    MemoryKept s t ∧
    (s.isMemory (stackAddr (s.sp + 1)) = true → s.isMemory (stackAddr (s.sp + 2)) = true →
      t = { s with
            pc := mkAddr (s.mem.read (stackAddr (s.sp + 2))) (s.mem.read (stackAddr (s.sp + 1))) + 1
            sp := s.sp + 2 })

/-- R170, R171, R173: where the two stack bytes are RAM and the JSR does not push onto itself (R351), RTS after JSR
comes back to the instruction after the JSR with the stack pointer, the registers, the flags, the lines and the devices
as they were. -/
def Obligations.RtsUndoesJsr : Prop :=
  ∀ (addr : Addr) (s : State), s.isRam (stackAddr s.sp) = true → s.isRam (stackAddr (s.sp - 1)) = true →
    (Instr.jsr addr).ontoItself s = false →
    ∃ t u, exec (.jsr addr) s = .next t ∧ exec .rts t = .next u ∧
      u = { s with pc := s.pc + 3, mem := t.mem }

/-! ### The stack -/

/-- R220, R222, R223, R230: PHA and PHP write one byte at `$0100 + SP` and decrement SP modulo 256. PHP's byte holds
the flags in the places of R26; bit 4 is the stored break flag where it has storage (R255, D10, log entry 12). No flag
changes. Where that byte is RAM nothing of the lines and devices changes, but the number of free values PHP uses. -/
def Obligations.PushesWriteOneByte : Prop :=
  ∀ s : State,
    (∃ t, exec .pha s = .next t ∧ t = { s with pc := s.pc + 1, sp := s.sp - 1, mem := t.mem, io := t.io } ∧
      MemoryKeptBut [stackAddr s.sp] s t ∧
      (s.isRam (stackAddr s.sp) = true → t.mem.read (stackAddr s.sp) = s.a ∧ t.io = s.io)) ∧
    (∃ t, exec .php s = .next t ∧ t = { s with pc := s.pc + 1, sp := s.sp - 1, mem := t.mem, io := t.io } ∧
      MemoryKeptBut [stackAddr s.sp] s t ∧
      (s.isRam (stackAddr s.sp) = true →
        let b := t.mem.read (stackAddr s.sp)
        b.getLsbD 7 = s.p.n ∧ b.getLsbD 6 = s.p.v ∧ b.getLsbD 3 = s.p.d ∧ b.getLsbD 2 = s.p.i ∧
        b.getLsbD 1 = s.p.z ∧ b.getLsbD 0 = s.p.c ∧ (s.cfg.bModel = .latch → b.getLsbD 4 = s.p.b) ∧
        t.io = { s.io with draws := t.io.draws }))

/-- R221, R224, R225: PLA and PLP increment SP modulo 256 and take the byte at `$0100 + SP`: PLA into A with its N and
Z, PLP into the flags, B only where it has storage (R255, D10, log entry 12). Memory is kept. -/
def Obligations.PullsReadOneByte : Prop :=
  ∀ s : State,
    let m := busRead { s with sp := s.sp + 1 } (stackAddr (s.sp + 1))
    (∃ t, exec .pla s = .next t ∧ MemoryKept s t ∧
      t = { s with
            a := m.1, p := { s.p with n := m.1.getLsbD 7, z := decide (m.1 = 0) }
            sp := s.sp + 1, pc := s.pc + 1, io := m.2.io }) ∧
    (∃ t, exec .plp s = .next t ∧ MemoryKept s t ∧
      t = { s with
            p := { n := m.1.getLsbD 7, v := m.1.getLsbD 6
                   b := if s.cfg.bModel = .latch then m.1.getLsbD 4 else s.p.b
                   d := m.1.getLsbD 3, i := m.1.getLsbD 2, z := m.1.getLsbD 1, c := m.1.getLsbD 0 }
            sp := s.sp + 1, pc := s.pc + 1, io := m.2.io }) ∧
    (s.isMemory (stackAddr (s.sp + 1)) = true → m.1 = s.mem.read (stackAddr (s.sp + 1)) ∧ m.2.io = s.io)

/-- R220, R221, R226, R227: a push writes at `$0100 + SP` on page $01 and then decrements SP, which wraps; a pull
after it in RAM returns the byte and restores SP. -/
def Obligations.PullUndoesPush : Prop :=
  ∀ (b : Byte) (s : State),
    (stackAddr s.sp).toNat = 256 + s.sp.toNat ∧
    push b s = { busWrite s (stackAddr s.sp) b with sp := (push b s).sp } ∧
    (push b s).sp.toNat = (s.sp.toNat + 255) % 256 ∧ (pull s).2.sp.toNat = (s.sp.toNat + 1) % 256 ∧
    (s.isRam (stackAddr s.sp) = true →
      pull (push b s) = (b, { s with mem := s.mem.write (stackAddr s.sp) b }))

/-! ### Flags and system -/

/-- R181 to R185, R187 to R189: each flag instruction writes its one flag, NOP nothing; each goes to the next byte and
is one byte of two cycles. -/
def Obligations.FlagInstructionsAndNop : Prop :=
  ∀ s : State,
    exec .clc s = .next { s with p := { s.p with c := false }, pc := s.pc + 1 } ∧
    exec .sec s = .next { s with p := { s.p with c := true }, pc := s.pc + 1 } ∧
    exec .cld s = .next { s with p := { s.p with d := false }, pc := s.pc + 1 } ∧
    exec .sed s = .next { s with p := { s.p with d := true }, pc := s.pc + 1 } ∧
    exec .cli s = .next { s with p := { s.p with i := false }, pc := s.pc + 1 } ∧
    exec .sei s = .next { s with p := { s.p with i := true }, pc := s.pc + 1 } ∧
    exec .clv s = .next { s with p := { s.p with v := false }, pc := s.pc + 1 } ∧
    exec .nop s = .next { s with pc := s.pc + 1 } ∧
    (∀ e ∈ [(Instr.clc, (0x18 : Byte)), (.sec, 0x38), (.cld, 0xD8), (.sed, 0xF8), (.cli, 0x58), (.sei, 0x78),
        (.clv, 0xB8), (.nop, 0xEA)],
      encode e.1 = [e.2] ∧ instrCycles e.1 s = 2)

/-- R180, R249, R255: BRK pushes its address plus 2 and `P` with bit 4 set, sets I after the push, sets B where it has
storage, and goes through the vector at $FFFE; A, X, Y and the other flags stay, and so does memory outside the three
stack bytes; where those are RAM and the vector is memory, nothing of the lines and devices changes but the number of
free values used. A BRK one of whose pushes lands on its own byte is refused, as the spec decides (R351, D14, log entry
16). Log entries 12 (D10) and 22 (D22) name the choices in it. -/
def Obligations.BrkEntersTheHandler : Prop :=
  ∀ s : State, (s.pc ∈ frameAddrs s.sp → exec .brk s = .refused (.ontoItself s.pc)) ∧
    (s.pc ∉ frameAddrs s.sp → ∃ t, exec .brk s = .next t ∧
    t = { s with
          pc := t.pc, sp := s.sp - 3, mem := t.mem, io := t.io
          p := { s.p with i := true, b := decide (s.cfg.bModel = .latch) || s.p.b } } ∧
    MemoryKeptBut (frameAddrs s.sp) s t ∧
    ((∀ a ∈ frameAddrs s.sp, s.isRam a = true) →
      let b := t.mem.read (stackAddr (s.sp - 2))
      t.mem.read (stackAddr s.sp) = hiByte (s.pc + 2) ∧ t.mem.read (stackAddr (s.sp - 1)) = loByte (s.pc + 2) ∧
      b.getLsbD 7 = s.p.n ∧ b.getLsbD 6 = s.p.v ∧ b.getLsbD 4 = true ∧ b.getLsbD 3 = s.p.d ∧
      b.getLsbD 2 = s.p.i ∧ b.getLsbD 1 = s.p.z ∧ b.getLsbD 0 = s.p.c) ∧
    (s.isMemory 0xFFFE = true → s.isMemory 0xFFFF = true →
      t.pc = mkAddr (s.mem.read 0xFFFF) (s.mem.read 0xFFFE)) ∧
    ((∀ a ∈ frameAddrs s.sp, s.isRam a = true) → s.isMemory 0xFFFE = true → s.isMemory 0xFFFF = true →
      t.io = { s.io with draws := t.io.draws }))

/-- R247, R248, R251, R255: the IRQ and NMI sequences push the address of the next instruction and `P` as it stands,
then set I, and B where it has storage, and go through $FFFE or $FFFA; NMI clears its latch; A, X, Y and the other
flags stay, and so does memory outside the three stack bytes; where those are RAM and the vector is memory, nothing of
the lines and devices changes but the latch and the number of free values used. Log entries 12 (D10), 21 (D21) and 22
(D22) name the choices in it. -/
def Obligations.InterruptsEnterTheHandler : Prop :=
  ∀ (s t : State) (vector : Addr),
    (t = irqSequence s ∧ vector = 0xFFFE ∨ t = nmiSequence s ∧ vector = 0xFFFA) →
    t = { s with
          pc := t.pc, sp := s.sp - 3, mem := t.mem, io := t.io
          p := { s.p with i := true, b := decide (s.cfg.bModel = .latch) || s.p.b } } ∧
    MemoryKeptBut (frameAddrs s.sp) s t ∧
    ((∀ a ∈ frameAddrs s.sp, s.isRam a = true) →
      let b := t.mem.read (stackAddr (s.sp - 2))
      t.mem.read (stackAddr s.sp) = hiByte s.pc ∧ t.mem.read (stackAddr (s.sp - 1)) = loByte s.pc ∧
      b.getLsbD 7 = s.p.n ∧ b.getLsbD 6 = s.p.v ∧ (s.cfg.bModel = .latch → b.getLsbD 4 = s.p.b) ∧
      b.getLsbD 3 = s.p.d ∧ b.getLsbD 2 = s.p.i ∧ b.getLsbD 1 = s.p.z ∧ b.getLsbD 0 = s.p.c) ∧
    (s.isMemory vector = true → s.isMemory (vector + 1) = true →
      t.pc = mkAddr (s.mem.read (vector + 1)) (s.mem.read vector)) ∧
    ((∀ a ∈ frameAddrs s.sp, s.isRam a = true) → s.isMemory vector = true → s.isMemory (vector + 1) = true →
      t.io = { s.io with nmiPending := s.io.nmiPending && vector == 0xFFFE, draws := t.io.draws }) ∧
    (s.io.env = [] → vector = 0xFFFA → t.io.nmiPending = false)

/-- R186, R250: RTI pulls `P`, then the low-order and the high-order byte of the program counter, to which nothing is
added; A, X, Y and memory stay. That B takes the pulled bit where it has storage and is kept where it has none is the
model's choice (D10, log entry 12). -/
def Obligations.RtiReturns : Prop :=
  ∀ s : State, ∃ t, exec .rti s = .next t ∧ MemoryKept s t ∧
    t = { s with pc := t.pc, sp := s.sp + 3, p := t.p, io := t.io } ∧
    (s.isMemory (stackAddr (s.sp + 1)) = true → s.isMemory (stackAddr (s.sp + 2)) = true →
      s.isMemory (stackAddr (s.sp + 3)) = true →
      let b := s.mem.read (stackAddr (s.sp + 1))
      t = { s with
            pc := mkAddr (s.mem.read (stackAddr (s.sp + 3))) (s.mem.read (stackAddr (s.sp + 2)))
            sp := s.sp + 3
            p := { n := b.getLsbD 7, v := b.getLsbD 6, b := if s.cfg.bModel = .latch then b.getLsbD 4 else s.p.b
                   d := b.getLsbD 3, i := b.getLsbD 2, z := b.getLsbD 1, c := b.getLsbD 0 } })

/-- R186, R250, R253: where the three stack bytes are RAM, RTI right after the entry of an IRQ or an NMI restores the
interrupted program: its address, its stack pointer, its registers and all its flags; after BRK it comes back two
bytes past the BRK, with B set where it has storage (D10, log entry 12), unless the BRK pushes onto its own byte (R351).
-/
def Obligations.RtiUndoesTheEntry : Prop :=
  ∀ s : State, (∀ a ∈ frameAddrs s.sp, s.isRam a = true) →
    (∀ t, t = irqSequence s ∨ t = nmiSequence s →
      ∃ u, exec .rti t = .next u ∧ u = { s with mem := t.mem, io := u.io, pc := s.pc }) ∧
    (s.pc ∉ frameAddrs s.sp → ∃ t u, exec .brk s = .next t ∧ exec .rti t = .next u ∧
      u = { s with
            mem := t.mem, io := u.io, pc := s.pc + 2
            p := { s.p with b := decide (s.cfg.bModel = .latch) || s.p.b } })

/-! ### Reset and time -/

/-- R340, R342, R283 (D25, D27): the reset sequence sets I, clears the NMI latch, writes no memory, resets every VIA
and takes the program counter from $FFFC and $FFFD (log entry 23). -/
def Obligations.ResetSequenceStarts : Prop :=
  ∀ s : State, s.isMemory 0xFFFC = true → s.isMemory 0xFFFD = true →
    let t := resetSequence s
    t.p.i = true ∧ t.io.nmiPending = false ∧ t.io.resetDue = false ∧ t.mem = s.mem ∧ MemoryKept s t ∧
    t.cfg = s.cfg ∧ bases t = bases s ∧ t.pc = mkAddr (s.mem.read 0xFFFD) (s.mem.read 0xFFFC) ∧
    (∀ v ∈ t.io.vias, v.portA.ddr = 0 ∧ v.portB.ddr = 0 ∧ v.pcr = 0 ∧ v.acr = 0 ∧ v.ifr = 0 ∧ v.ier = 0)

/-- R42, R283: the machine after reset: I is 1, and every VIA has the registers that R283 lists cleared. That no NMI
is latched is D21's (log entry 21), that the IRQ line is high is the model's choice (log entry 5), and the program
counter is the vector as memory reads (log entry 2 says what empty memory reads as). -/
def Obligations.ResetState : Prop :=
  State.reset.p.i = true ∧ State.reset.io.nmiPending = false ∧ State.reset.io.irqLow = false ∧
  State.reset.pc = mkAddr (State.reset.mem.read 0xFFFD) (State.reset.mem.read 0xFFFC) ∧
  (∀ v ∈ State.reset.io.vias,
    v.portA.ddr = 0 ∧ v.portB.ddr = 0 ∧ v.pcr = 0 ∧ v.acr = 0 ∧ v.ifr = 0 ∧ v.ier = 0 ∧ v.irqActive = false)

/-- R356, R359, R97 (D24, log entry 28): execution times. Every operation code has the figure that Table I gives it,
and every instruction takes 2 to 7 cycles; a branch takes 2, or 3 when taken to the page of the next instruction, or 4
when taken to another page; every read indexed by absolute,X, absolute,Y or (indirect),Y takes one more cycle exactly
when the index carries into the high byte (for (indirect),Y the pointer as memory holds it); all other instructions,
stores and read-modify-write instructions among them, always take Table I's figure. -/
def Obligations.ExecutionTimes : Prop :=
  (∀ (i : Instr) (s : State), 2 ≤ instrCycles i s ∧ instrCycles i s ≤ 7) ∧
  (∀ row ∈ cyclesOfTableOne, ∀ op ∈ row.2, ∀ i : Instr, (encode i).head? = some op → baseCycles i = row.1) ∧
  (∀ i : Instr, ∃ row ∈ cyclesOfTableOne, ∃ op ∈ row.2, (encode i).head? = some op) ∧
  (∀ (i : Instr) (disp : Byte) (s t : State), i.displacement = some disp → exec i s = .next t →
    instrCycles i s =
      if branchTaken i s.p = false then 2 else if hiByte t.pc = hiByte (s.pc + 2) then 3 else 4) ∧
  (∀ (i : Instr) (s : State) (addr : Addr) (zp : Byte),
    (i.operand = some (.mem (.absx addr)) →
      instrCycles i s = baseCycles i + if 255 < addr.toNat % 256 + s.x.toNat then 1 else 0) ∧
    (i.operand = some (.mem (.absy addr)) →
      instrCycles i s = baseCycles i + if 255 < addr.toNat % 256 + s.y.toNat then 1 else 0) ∧
    (i.operand = some (.mem (.indy zp)) →
      instrCycles i s = baseCycles i + if 255 < (s.mem.read (zext zp)).toNat + s.y.toNat then 1 else 0)) ∧
  (∀ (i : Instr) (s : State), i.displacement = none →
    (∀ addr, i.operand ≠ some (.mem (.absx addr)) ∧ i.operand ≠ some (.mem (.absy addr))) →
    (∀ zp, i.operand ≠ some (.mem (.indy zp))) → instrCycles i s = baseCycles i) ∧
  (∀ (i : Instr) (s : State), (i.writesMemory = true ∨ i.target ≠ none) → instrCycles i s = baseCycles i)

/-! ### The VIA -/

/-- R56, R281: the sixteen addresses from a VIA's base select its sixteen registers in the order of R281's table, and
no other address selects one. An access at an address that a VIA's window holds reads or writes the register it
selects in the first such VIA, with that register's effect; the other VIAs, memory and the CPU's registers stay. Stated
for an environment that does nothing and free time. The addresses, and that the first VIA answers, are D19's and the
model's, the count of free values the model's (log entries 10 and 25). -/
def Obligations.ViaRegistersAnswerOnTheBus : Prop :=
  (∀ (base : Addr) (k : Nat), k < 65536 → selectReg base (base + BitVec.ofNat 16 k) =
    [ViaReg.orb, .ora, .ddrb, .ddra, .t1cL, .t1cH, .t1lL, .t1lH, .t2cL, .t2cH, .sr, .acr, .pcr, .ifr, .ier,
      .oraNoHandshake][k]?) ∧
  ∀ (s : State) (front : List Via) (v : Via) (rest : List Via) (a : Addr) (r : ViaReg) (b : Byte),
    s.io.env = [] → s.cfg.viaTime = .free → s.io.vias = front ++ v :: rest →
    (∀ u ∈ front, selectReg u.base a = none) → selectReg v.base a = some r →
    busRead s a =
      (v.readValue r s.io.draws,
        { s with io := { s.io with
            vias := front ++ v.readEffect r s.io.draws :: rest, draws := s.io.draws + viaDraws } }) ∧
    busWrite s a b =
      { s with io := { s.io with
          vias := front ++ v.write r b s.io.draws :: rest, draws := s.io.draws + viaDraws } } ∧
    (a.toNat + 65536 - v.base.toNat) % 65536 < 16

/-- R286, R287, R290, R291: a write of ORB or ORA stores the byte and changes nothing else of the two ports; it is
driven on the output lines that the outside does not hold, but for PB7 while timer 1 drives it. A read of a port,
through register $F too, releases its latch and changes nothing else of the two ports (log entries 35 and 36). What the
ports read as, bit by bit: on port B an output bit is the bit of ORB; on port A every bit is the level on its pin; an
input line is at the level the outside gives it, high when nothing is connected; a latched port reads as the latched
levels (log entry 36). Line 7 of port B is no exception while timer 1 drives PB7 (log entry 32). -/
def Obligations.PortsReadTheirPins : Prop :=
  ∀ (v : Via) (b : Byte) (k d : Nat), k < 8 →
    (v.write .orb b d).portB = { v.portB with out := b } ∧ (v.write .orb b d).portA = v.portA ∧
    (v.write .ora b d).portA = { v.portA with out := b } ∧ (v.write .ora b d).portB = v.portB ∧
    (v.portB.forced.getLsbD k = false → v.portB.ddr.getLsbD k = true → (k = 7 → v.acr.getLsbD 7 = false) →
      ((v.write .orb b d).pins .b).getLsbD k = b.getLsbD k) ∧
    (v.portA.forced.getLsbD k = false → v.portA.ddr.getLsbD k = true →
      ((v.write .ora b d).pins .a).getLsbD k = b.getLsbD k) ∧
    (v.readEffect .orb d).portB = { v.portB with latched := false } ∧ (v.readEffect .orb d).portA = v.portA ∧
    (∀ r ∈ [ViaReg.ora, .oraNoHandshake],
      (v.readEffect r d).portA = { v.portA with latched := false } ∧ (v.readEffect r d).portB = v.portB) ∧
    let unlatched (side : Side) : Prop := v.latching side = false ∨ (v.port side).latched = false
    (∀ p : Port, p.ddr.getLsbD k = false →
      ∀ driven, (p.pins driven).getLsbD k = if p.forced.getLsbD k then p.level.getLsbD k else true) ∧
    (v.portB.ddr.getLsbD k = true → (v.readValue .orb d).getLsbD k = v.portB.out.getLsbD k) ∧
    (v.portB.ddr.getLsbD k = false → unlatched .b →
      (v.readValue .orb d).getLsbD k =
        if v.portB.forced.getLsbD k then v.portB.level.getLsbD k else true) ∧
    (unlatched .a → (v.readValue .ora d).getLsbD k =
      if v.portA.forced.getLsbD k then v.portA.level.getLsbD k
      else if v.portA.ddr.getLsbD k then v.portA.out.getLsbD k else true) ∧
    (¬ unlatched .a → v.readValue .ora d = v.portA.latch) ∧
    (v.portB.ddr.getLsbD k = false → ¬ unlatched .b →
      (v.readValue .orb d).getLsbD k = v.portB.latch.getLsbD k)

/-- R286, R287, R316, R318: which flags each access of a register resets: ORB those of CB1 and CB2, ORA those of CA1 and
CA2 (C2's unless it is an independent input, so also while C2 is an output; for CB2 in a shift mode PCR does not apply:
log entry 37), T1C-L read and T1C-H write T1's, T2C-L read and T2C-H write T2's, SR its own; all other flags stay, and a
read of the other registers resets none (derived in the spec, log entry 38). Register $F reads and writes port A as
register $1 does, moves CA2 never and can reset no flag but those of CA1 and CA2 (log entry 35). The flags apart, an
access changes no more than this: a read of a port releases its latch and a write stores the byte; ORA makes CA2 low,
and a write of ORB makes CB2 low, in the handshake and pulse modes (C17; CB2 not in a shift mode, log entry 37); a read
of T1C-L or T2C-L nothing; a write of T1C-L or T2C-L the low-order latch; of T1C-H or T2C-H its timer, loaded from latch
and byte; an access of SR the shifts to come, and a write its byte. -/
def Obligations.AccessesResetFlags : Prop :=
  ∀ (v : Via) (b : Byte) (d : Nat),
    let starts (k : BitVec 4) : Bool := k.getLsbD 3 && !k.getLsbD 2
    let ctlA := { v.ctlA with c2Out := v.ctlA.c2Out && !starts (sideBits v.pcr .a) }
    let ctlB := { v.ctlB with c2Out := v.ctlB.c2Out && !(starts (sideBits v.pcr .b) && shiftMode v.acr == 0) }
    (let w := v.readEffect .orb d; w = { v with portB := { v.portB with latched := false }, ifr := w.ifr }) ∧
    (let w := v.readEffect .ora d
     w = { v with portA := { v.portA with latched := false }, ctlA := ctlA, ifr := w.ifr }) ∧
    (let w := v.readEffect .oraNoHandshake d
     w = { v with portA := { v.portA with latched := false }, ifr := w.ifr }) ∧
    (let w := v.write .orb b d; w = { v with portB := { v.portB with out := b }, ctlB := ctlB, ifr := w.ifr }) ∧
    (let w := v.write .ora b d; w = { v with portA := { v.portA with out := b }, ctlA := ctlA, ifr := w.ifr }) ∧
    (let w := v.write .oraNoHandshake b d; w = { v with portA := { v.portA with out := b }, ifr := w.ifr }) ∧
    (let w := v.readEffect .t1cL d; w = { v with ifr := w.ifr }) ∧
    (let w := v.readEffect .t2cL d; w = { v with ifr := w.ifr }) ∧
    v.write .t1cL b d = { v with t1 := { v.t1 with latchLow := b } } ∧
    v.write .t2cL b d = { v with t2 := { v.t2 with latchLow := b } } ∧
    (let w := v.write .t1cH b d
     w = { v with
           ifr := w.ifr
           t1 := { v.t1 with
                   latchHigh := b, counter := mkAddr b v.t1.latchLow, isOpen := false, armed := true
                   zeroElapsed := w.t1.zeroElapsed, countsOn := w.t1.countsOn
                   pb7 := v.t1.pb7 && !v.acr.getLsbD 7 } }) ∧
    (let w := v.write .t2cH b d
     w = { v with
           ifr := w.ifr
           t2 := { v.t2 with
                   counter := mkAddr b v.t2.latchLow, isOpen := false, zeroElapsed := w.t2.zeroElapsed } }) ∧
    (let w := v.readEffect .sr d
     w = { v with ifr := w.ifr, shifter := { v.shifter with left := w.shifter.left } }) ∧
    (let w := v.write .sr b d
     w = { v with ifr := w.ifr, shifter := { v.shifter with sr := b, left := w.shifter.left } }) ∧
    ∀ k, k < 7 →
    let read (r : ViaReg) : Bool := (v.readEffect r d).flag k
    let write (r : ViaReg) : Bool := (v.write r b d).flag k
    let keepB := decide (k = 4) || (decide (k = 3) && !(c2Independent (sideBits v.pcr .b) && shiftMode v.acr == 0))
    let keepA := decide (k = 1) || (decide (k = 0) && !c2Independent (sideBits v.pcr .a))
    read .orb = (!keepB && v.flag k) ∧ write .orb = (!keepB && v.flag k) ∧
    read .ora = (!keepA && v.flag k) ∧ write .ora = (!keepA && v.flag k) ∧
    read .t1cL = (!decide (k = 6) && v.flag k) ∧ write .t1cH = (!decide (k = 6) && v.flag k) ∧
    read .t2cL = (!decide (k = 5) && v.flag k) ∧ write .t2cH = (!decide (k = 5) && v.flag k) ∧
    read .sr = (!decide (k = 2) && v.flag k) ∧ write .sr = (!decide (k = 2) && v.flag k) ∧
    (∀ r ∈ [ViaReg.ddrb, .ddra, .t1cH, .t1lL, .t1lH, .t2cH, .acr, .pcr, .ifr, .ier], v.readEffect r d = v) ∧
    (∀ r ∈ [ViaReg.ddrb, .ddra, .t1cL, .t1lL, .t1lH, .t2cL, .pcr, .ier], write r = v.flag k) ∧
    (∀ f ∈ [read .oraNoHandshake, write .oraNoHandshake],
      (f = true → v.flag k = true) ∧ (k ≠ 0 → k ≠ 1 → f = v.flag k) ∧
      (k = 0 → c2Independent (sideBits v.pcr .a) = true → f = v.flag k)) ∧
    v.readValue .oraNoHandshake d = v.readValue .ora d ∧
    (v.write .oraNoHandshake b d).portA = { v.portA with out := b } ∧
    (v.readEffect .oraNoHandshake d).c2Level .a = v.c2Level .a ∧
    (v.write .oraNoHandshake b d).c2Level .a = v.c2Level .a

/-- R288, R289, R305, R306: the data direction and control registers. A write of DDRA or DDRB changes it and nothing
else of the VIA; an output line is at the level the VIA drives on it, unless the outside holds it, and an input line
at the outside's level, high when nothing is connected. A write of PCR changes it and no more than the levels of CA2
and CB2 as handshake and pulse outputs (log entry 37); that neither it nor a write of ACR can itself be an active
transition is the model's choice (log entry 42). A write of ACR changes it, releases the latch of a port whose
latching it disables (log entry 36), resets the flag of a shift register it disables, and may change the levels PB7,
CB1 and CB2 take in a new mode and the count of shifts (log entries 32, 33, 34, 37). A read of the four returns what
was written (derived in the spec, log entry 38) and changes nothing; a VIA reset makes each $00. -/
def Obligations.DirectionAndControlRegisters : Prop :=
  ∀ (v : Via) (b : Byte) (d : Nat),
    v.write .ddra b d = { v with portA := { v.portA with ddr := b } } ∧
    v.write .ddrb b d = { v with portB := { v.portB with ddr := b } } ∧
    (∀ k, k < 8 →
      ((v.write .ddra b d).pins .a).getLsbD k =
        (if v.portA.forced.getLsbD k then v.portA.level.getLsbD k
          else if b.getLsbD k then v.portA.out.getLsbD k else true) ∧
      ((v.write .ddrb b d).pins .b).getLsbD k =
        (if v.portB.forced.getLsbD k then v.portB.level.getLsbD k
          else if b.getLsbD k then
            (if k = 7 && v.acr.getLsbD 7 then v.t1.pb7 else v.portB.out.getLsbD k)
          else true)) ∧
    (let w := v.write .pcr b d
     w = { v with
           pcr := b, ctlA := { v.ctlA with c2Out := w.ctlA.c2Out }, ctlB := { v.ctlB with c2Out := w.ctlB.c2Out } }) ∧
    (let w := v.write .acr b d
     w = { v with
           acr := b
           portA := { v.portA with latched := v.portA.latched && b.getLsbD 0 }
           portB := { v.portB with latched := v.portB.latched && b.getLsbD 1 }
           ctlB := { v.ctlB with c2Out := w.ctlB.c2Out }
           t1 := { v.t1 with pb7 := w.t1.pb7 }
           shifter := { w.shifter with sr := v.shifter.sr }
           ifr := w.ifr } ∧
     (∀ k, k < 7 → w.flag k = (v.flag k && !(decide (k = srFlag) && shiftMode b == 0))) ∧
     (shiftMode b = 0 → w.shifter.left = 0) ∧ (b.getLsbD 7 = v.acr.getLsbD 7 → w.t1.pb7 = v.t1.pb7) ∧
     (shiftMode b = shiftMode v.acr → w.ctlB = v.ctlB ∧ w.shifter.dataOut = v.shifter.dataOut ∧
       w.shifter.clockOut = v.shifter.clockOut)) ∧
    (∀ r ∈ [ViaReg.ddra, .ddrb, .acr, .pcr],
      (v.write r b d).readValue r d = b ∧ v.readEffect r d = v ∧ (v.reset d).readValue r d = 0 ∧
      (Via.atReset v.base).readValue r d = 0) ∧
    v.readValue .ddra d = v.portA.ddr ∧ v.readValue .ddrb d = v.portB.ddr ∧ v.readValue .acr d = v.acr ∧
    v.readValue .pcr d = v.pcr ∧ (v.reset d).portA.ddr = 0 ∧ (Via.atReset v.base).portA.ddr = 0

/-- R294: the latches of timer 1. A write of register $6 changes the low-order latch, of register $7 the high-order
latch; reads of $6 and $7 return them; no transfer to the counter takes place and the T1 flag is unaffected by these
reads and writes. -/
def Obligations.Timer1Latches : Prop :=
  ∀ (v : Via) (b : Byte) (d : Nat),
    v.write .t1lL b d = { v with t1 := { v.t1 with latchLow := b } } ∧
    v.write .t1lH b d = { v with t1 := { v.t1 with latchHigh := b } } ∧
    (v.write .t1lL b d).readValue .t1lL d = b ∧ (v.write .t1lH b d).readValue .t1lH d = b ∧
    v.readValue .t1lL d = v.t1.latchLow ∧ v.readValue .t1lH d = v.t1.latchHigh ∧
    v.readEffect .t1lL d = v ∧ v.readEffect .t1lH d = v

/-- R292, R293, R297, R298: timer 1 is loaded by a write of its low-order latch and then of T1C-H: the counter is the
two bytes, the T1 flag is reset and, when timer 1 drives PB7, PB7 is low. At any time after a load, and whatever the
latches hold, a read of T1C-L and of T1C-H returns the low-order and the high-order byte of the running counter. -/
def Obligations.Timer1Load : Prop :=
  ∀ (v : Via) (lo hi : Byte) (d : Nat),
    let w := (v.write .t1cL lo d).write .t1cH hi d
    w.t1.counter = mkAddr hi lo ∧ w.t1.latchLow = lo ∧ w.t1.latchHigh = hi ∧ w.flag t1Flag = false ∧
    w.readValue .t1cL d = lo ∧ w.readValue .t1cH d = hi ∧
    (v.t1.isOpen = false →
      (v.readValue .t1cL d).toNat = v.t1.counter.toNat % 256 ∧
      (v.readValue .t1cH d).toNat = v.t1.counter.toNat / 256) ∧
    (v.drivesPb7 = true → w.t1.pb7 = false) ∧ w.acr = v.acr ∧ w.t2 = v.t2 ∧ w.portA = v.portA ∧ w.portB = v.portB

/-- R293, R296: a one-shot timer 1 loaded with N > 0 counts down once a clock pulse; its flag is clear until the Nth
pulse, which sets it, and once cleared is not set again until T1C-H is written; PB7, when timer 1 drives it, is low from
the load to the Nth pulse and high from then on. After zero the spec has the counter both go on from $0000 to $FFFF
(R296) and hold any value (U18): either it goes on, or each read of it returns a free byte, as the bit `countsOn` drawn
at the load decides; all this holds for both values `on` of that bit (log entries 26 and 30: the number of pulses, and
the bit, are the model's). -/
def Obligations.Timer1OneShot : Prop :=
  ∀ (v : Via) (lo hi : Byte) (d n : Nat) (on : Bool), v.freeRunning = false →
    let loaded := (v.write .t1cL lo d).write .t1cH hi d
    let w := { loaded with t1 := { loaded.t1 with countsOn := on } }
    let count := (mkAddr hi lo).toNat
    let after := Via.ticks n (Via.ticks count w)
    0 < count →
    (n < count → (Via.ticks n w).flag t1Flag = false ∧ (Via.ticks n w).t1.counter.toNat = count - n ∧
      (Via.ticks n w).t1.isOpen = false) ∧
    (Via.ticks count w).flag t1Flag = true ∧
    (v.drivesPb7 = true → (n < count → (Via.ticks n w).t1.pb7 = false) ∧ after.t1.pb7 = true) ∧
    (Via.ticks n ((Via.ticks count w).clearFlag t1Flag)).flag t1Flag = false ∧
    (on = true → n < 65536 →
      after.t1.isOpen = false ∧ after.t1.counter.toNat = (65536 - n) % 65536) ∧
    (on = false → ∀ e,
      after.readValue .t1cL e = Config.anyByte e ∧ after.readValue .t1cH e = Config.anyByte e)

/-- R295, R296 (C18): a free-running timer 1 with N > 0 in its counter sets its flag at the Nth pulse, and is then
loaded from its latches as they stand; the flag stays set until it is cleared; PB7, when timer 1 drives it, is
inverted (log entries 26 and 30: the number of pulses and the flag's staying are inferences). -/
def Obligations.Timer1FreeRunning : Prop :=
  ∀ (v : Via) (n : Nat), v.freeRunning = true → v.t1.isOpen = false → 0 < v.t1.counter.toNat →
    (n < v.t1.counter.toNat → (Via.ticks n v).flag t1Flag = v.flag t1Flag ∧ (Via.ticks n v).t1.pb7 = v.t1.pb7) ∧
    (let w := Via.ticks v.t1.counter.toNat v
     w.flag t1Flag = true ∧ w.t1.counter = mkAddr v.t1.latchHigh v.t1.latchLow ∧ w.t1.isOpen = false ∧
     w.t1.pb7 = if v.drivesPb7 then !v.t1.pb7 else v.t1.pb7)

/-- R299, R300, R301, R302: timer 2 is loaded by a write of T2C-L and then of T2C-H, which resets its flag; while it
counts, reads of T2C-L and T2C-H return the two bytes of the counter whatever the latch holds; loaded with N > 0 it
sets the flag at the Nth count and not before: a count is a clock pulse in the timed mode and a pulse on an input PB6
in the pulse-counting mode, in which the clock does not count (log entries 26 and 31). -/
def Obligations.Timer2Counts : Prop :=
  ∀ (v : Via) (lo hi : Byte) (d n : Nat),
    let w := (v.write .t2cL lo d).write .t2cH hi d
    let count := (mkAddr hi lo).toNat
    let countT2s (n : Nat) : Via := Nat.rec w (fun _ x => x.countT2) n
    w.flag t2Flag = false ∧ w.readValue .t2cL d = lo ∧ w.readValue .t2cH d = hi ∧
    (v.t2.isOpen = false →
      (v.readValue .t2cL d).toNat = v.t2.counter.toNat % 256 ∧
      (v.readValue .t2cH d).toNat = v.t2.counter.toNat / 256) ∧
    (0 < count →
      (n < count → (countT2s n).flag t2Flag = false ∧ (countT2s n).t2.counter.toNat = count - n) ∧
      (countT2s count).flag t2Flag = true) ∧
    (v.pulseCounting = true → v.tick.t2 = v.t2) ∧
    (v.pulseCounting = false → v.tick.t2 = v.countT2.t2 ∧ v.tick.flag t2Flag = v.countT2.flag t2Flag) ∧
    (v.pulseCounting = true → v.portB.ddr.getLsbD 6 = false → v.pb6Pulse d = v.countT2) ∧
    (v.pulseCounting = false → v.pb6Pulse d = v)

/-- R303, R304: a write of SR stores the byte, a read returns it; either resets the SR flag and, in every enabled mode
but 3, starts eight shifts (in mode 3 it starts none). The eighth shift pulse, and none before it, ends the transfer
and sets the flag in the modes with one; in mode 4 eight more follow without end. In mode 3, whatever count it is at,
the pulse that completes eight, and none before it, sets the flag, and the next eight are counted from there. A
disabled shift register ignores pulses (log entry 34). -/
def Obligations.ShiftRegisterShiftsEight : Prop :=
  ∀ (v w : Via) (b : Byte) (dir : ShiftDir) (d n : Nat),
    let m := shiftMode v.acr
    let pulses (n : Nat) : Via := Nat.rec w (fun k x => x.shiftPulse dir (d + k)) n
    (m = 0 → v.shiftPulse dir d = v) ∧
    (v.write .sr b d).shifter.sr = b ∧ (v.readEffect .sr d).shifter.sr = v.shifter.sr ∧
    v.readValue .sr d = v.shifter.sr ∧
    (w = v.write .sr b d ∨ w = v.readEffect .sr d →
      w.flag srFlag = false ∧
      (m = 3 → w.shifter.left = v.shifter.left ∨ w.shifter.left = 0) ∧
      (m ≠ 0 → m ≠ 3 → n < 8 → (pulses n).flag srFlag = false ∧ (pulses n).shifter.left = 8 - n) ∧
      (m ≠ 0 → m ≠ 3 → m ≠ 4 → (pulses 8).flag srFlag = true ∧ (pulses 8).shifter.left = 0) ∧
      (m = 4 → (pulses 8).shifter.left = 8)) ∧
    (shiftMode w.acr = 3 →
      let count := if w.shifter.left = 0 then 8 else w.shifter.left
      (n < count → (pulses n).flag srFlag = w.flag srFlag ∧ (0 < n → (pulses n).shifter.left = count - n)) ∧
      (pulses count).flag srFlag = true ∧ (pulses count).shifter.left = 0)

/-- R307: CA1. An active transition, high to low when PCR bit 0 is 0 and low to high when it is 1, sets bit 1 of IFR,
latches port A when ACR bit 0 is 1 and ends a handshake on CA2; any other change of CA1 sets no flag; the flag is
reset by a CPU read or write of ORA. -/
def Obligations.Ca1ActiveTransition : Prop :=
  ∀ (v : Via) (high : Bool) (b : Byte) (d : Nat),
    let active := v.ctlA.c1 != high && high == v.pcr.getLsbD 0
    let w := v.event .unstated d (.c1 .a high)
    w.ctlA.c1 = high ∧ w.flag 1 = (active || v.flag 1) ∧
    (active = true → v.acr.getLsbD 0 = true → w.portA.latch = v.portA.pins v.portA.out ∧ w.portA.latched = true) ∧
    (active = false → w.portA = v.portA) ∧ (v.acr.getLsbD 0 = false → w.portA = v.portA) ∧
    (active = true → c2Handshake (sideBits v.pcr .a) = true → w.ctlA.c2Out = true) ∧
    (active = false → w = { v with ctlA := { v.ctlA with c1 := high } }) ∧
    (w.readEffect .ora d).flag 1 = false ∧ (w.write .ora b d).flag 1 = false

/-- R304, R308, R309, R310: CA2 always, and CB1 and CB2 while the shift register is disabled. C2 as an input: the
active transition sets its flag; as an output in the handshake and pulse modes CA2 goes low on a read or a write of
ORA, CB2 on a write of ORB only (C17), and a clock pulse ends the pulse mode; modes 110 and 111 hold the line low and
high. The level before a transition is the last from outside (log entry 42). CB1: an active transition, high to low
when PCR bit 4 is 0 and low to high when it is 1, sets bit 4 of IFR, latches port B when ACR bit 1 is 1 and ends a
handshake on CB2; any other change does nothing. In a shift mode PCR does not apply to CB1 and CB2: their changes set
no flag and latch nothing (log entry 37). -/
def Obligations.ControlLinesFollowPcr : Prop :=
  ∀ (v : Via) (side : Side) (high : Bool) (b : Byte) (d : Nat),
    (side = .a ∨ shiftMode v.acr = 0 →
      let k := sideBits v.pcr side
      let active := (v.ctl side).c2 != high && high == k.getLsbD 2
      (k.getLsbD 3 = false →
        (v.event .unstated d (.c2 side high)).flag (c2Flag side) = (active || v.flag (c2Flag side)) ∧
        v.c2Level side = (v.ctl side).c2) ∧
      (k.getLsbD 3 = true → (v.event .unstated d (.c2 side high)).ifr = v.ifr) ∧
      (k.extractLsb' 1 3 = 0b110#3 → v.c2Level side = false) ∧
      (k.extractLsb' 1 3 = 0b111#3 → v.c2Level side = true) ∧
      (k.extractLsb' 1 3 = 0b100#3 ∨ k.extractLsb' 1 3 = 0b101#3 →
        (side = .a → (v.readEffect .ora d).c2Level .a = false ∧ (v.write .ora b d).c2Level .a = false ∧
          (v.readEffect .oraNoHandshake d).c2Level .a = v.c2Level .a) ∧
        (side = .b → (v.readEffect .orb d).c2Level .b = v.c2Level .b ∧ (v.write .orb b d).c2Level .b = false)) ∧
      (k.extractLsb' 1 3 = 0b101#3 → v.tick.c2Level side = true)) ∧
    (shiftMode v.acr = 0 →
      let active := v.ctlB.c1 != high && high == v.pcr.getLsbD 4
      let w := v.event .unstated d (.c1 .b high)
      w.ctlB.c1 = high ∧ w.flag 4 = (active || v.flag 4) ∧
      (active = true → v.acr.getLsbD 1 = true →
        w.portB.latch = v.portB.pins (v.driven .b) ∧ w.portB.latched = true) ∧
      (v.acr.getLsbD 1 = false → w.portB = v.portB) ∧
      (active = true → c2Handshake (sideBits v.pcr .b) = true → w.c2Level .b = true) ∧
      (active = false → w = { v with ctlB := { v.ctlB with c1 := high } })) ∧
    (shiftMode v.acr ≠ 0 →
      v.event .unstated d (.c1 .b high) = { v with ctlB := { v.ctlB with c1 := high } } ∧
      v.event .unstated d (.c2 .b high) = { v with ctlB := { v.ctlB with c2 := high } })

/-- R284: the interrupt output. It is active exactly when some flag is set whose enable bit is 1; bit 7 of a read of
IFR says so; and the IRQ line is low exactly when a VIA is active or another device pulls it low (R241, log entry 25).
-/
def Obligations.IrqOutputFollowsFlagsAndEnables : Prop :=
  (∀ v : Via, v.irqActive = true ↔ ∃ k, k < 7 ∧ v.ifr.getLsbD k = true ∧ v.ier.getLsbD k = true) ∧
  (∀ (v : Via) (d : Nat), (v.readValue .ifr d).getLsbD 7 = v.irqActive) ∧
  (∀ io : Io, io.irqLow = true ↔ io.irqLine = false ∨ ∃ v ∈ io.vias, v.irqActive = true)

/-- R316, R317: IFR and IER. A 1 written to IFR resets that flag; bits 6 to 0 of IFR read as the flags; a write of IER
with bit 7 set enables, and with bit 7 clear disables, the sources whose bits are 1 and leaves the others; IER reads
with bit 7 as 1. Neither changes anything else (log entry 38: bit 7 written to IFR). -/
def Obligations.InterruptRegisters : Prop :=
  ∀ (v : Via) (b : Byte) (d k : Nat), k < 7 →
    (v.write .ifr b d).flag k = (v.flag k && !b.getLsbD k) ∧
    v.write .ifr b d = { v with ifr := (v.write .ifr b d).ifr } ∧
    (v.readValue .ifr d).getLsbD k = v.flag k ∧
    (v.write .ier b d).ier.getLsbD k = (if b.getLsbD k then b.getLsbD 7 else v.ier.getLsbD k) ∧
    v.write .ier b d = { v with ier := (v.write .ier b d).ier } ∧
    (v.readValue .ier d).getLsbD k = v.ier.getLsbD k ∧ (v.readValue .ier d).getLsbD 7 = true ∧
    (v.reset d).ier = 0 ∧ (v.reset d).ifr = 0

/-- R283: VIA reset clears DDRA, DDRB, PCR, ACR and IFR and disables interrupts, so that the interrupt output is not
active; its address stays. -/
def Obligations.ViaResetClears : Prop :=
  ∀ (v : Via) (d : Nat),
    let w := v.reset d
    w.portA.ddr = 0 ∧ w.portB.ddr = 0 ∧ w.pcr = 0 ∧ w.acr = 0 ∧ w.ifr = 0 ∧ w.ier = 0 ∧ w.irqActive = false ∧
    w.base = v.base ∧ w.latching .a = false ∧ w.latching .b = false ∧ shiftMode w.acr = 0 ∧
    w.pulseCounting = false ∧ w.freeRunning = false ∧ w.drivesPb7 = false

end
end

