-- ==== Sys2Proof/Laws/Bits.lean ====
section
/-! SUPPORT. How the two bytes of an address and the address itself give each other. -/

namespace Sys2Proof.Machine

/-- `(hi : lo)` is `hi * 256 + lo` (R9). -/
theorem mkAddr_toNat (hi lo : Byte) : (mkAddr hi lo).toNat = hi.toNat * 256 + lo.toNat := by
  have h : (mkAddr hi lo).toNat = hi.toNat <<< 8 ||| lo.toNat := BitVec.toNat_append hi lo
  rw [h, Nat.shiftLeft_eq, Nat.mul_comm, ← Nat.two_pow_add_eq_or_of_lt lo.isLt]

theorem loByte_toNat (a : Addr) : (loByte a).toNat = a.toNat % 256 := by
  simp [loByte]

theorem hiByte_toNat (a : Addr) : (hiByte a).toNat = a.toNat / 256 := by
  simp [hiByte, Nat.shiftRight_eq_div_pow]
  omega

@[simp] theorem loByte_mkAddr (hi lo : Byte) : loByte (mkAddr hi lo) = lo := by
  apply BitVec.eq_of_toNat_eq
  rw [loByte_toNat, mkAddr_toNat]
  omega

@[simp] theorem hiByte_mkAddr (hi lo : Byte) : hiByte (mkAddr hi lo) = hi := by
  apply BitVec.eq_of_toNat_eq
  rw [hiByte_toNat, mkAddr_toNat]
  omega

@[simp] theorem mkAddr_hiByte_loByte (a : Addr) : mkAddr (hiByte a) (loByte a) = a := by
  apply BitVec.eq_of_toNat_eq
  rw [mkAddr_toNat, hiByte_toNat, loByte_toNat]
  omega

theorem stackAddr_toNat (sp : Byte) : (stackAddr sp).toNat = 256 + sp.toNat := by
  simp [stackAddr, mkAddr_toNat]

theorem stackAddr_inj {x y : Byte} (h : stackAddr x = stackAddr y) : x = y := by
  have := congrArg loByte h
  simpa [stackAddr] using this

/-- Two locations of the stack page are one address only if the pointers are equal. -/
@[simp] theorem stackAddr_eq_iff (x y : Byte) : stackAddr x = stackAddr y ↔ x = y :=
  ⟨stackAddr_inj, congrArg _⟩

theorem zext_toNat (b : Byte) : (zext b).toNat = b.toNat := by
  simp [zext]; omega

end Sys2Proof.Machine
end

