-- ==== Sys2Proof/Laws/Memory.lean ====
section
/-! SUPPORT. Memory: a read after a write gives the byte written, a write leaves every other address alone, and every
memory operation keeps the canonical form. -/

namespace Sys2Proof.Machine

theorem Memory.lookup_erase_same (k : Nat) (m : Memory) : Memory.lookup k (Memory.erase k m) = Memory.unlisted := by
  induction m with
  | nil => rfl
  | cons c m ih =>
    by_cases h : c.1 = k
    · simpa [Memory.erase, h] using ih
    · simpa [Memory.erase, Memory.lookup, h] using ih

theorem Memory.lookup_erase_other {k j : Nat} (h : j ≠ k) (m : Memory) :
    Memory.lookup j (Memory.erase k m) = Memory.lookup j m := by
  induction m with
  | nil => rfl
  | cons c m ih =>
    by_cases hc : c.1 = k
    · have : c.1 ≠ j := fun e => h (e ▸ hc)
      simpa [Memory.erase, Memory.lookup, hc, Ne.symm h] using ih
    · by_cases hj : c.1 = j <;> simp_all [Memory.erase, Memory.lookup]

theorem Memory.lookup_insert_other {k j : Nat} (h : j ≠ k) (b : Byte) (m : Memory) :
    Memory.lookup j (Memory.insert k b m) = Memory.lookup j m := by
  induction m with
  | nil => simp [Memory.insert, Memory.lookup, Ne.symm h]
  | cons c m ih =>
    simp only [Memory.insert]
    split
    · simp [Memory.lookup, Ne.symm h]
    · simp [Memory.lookup, ih]

theorem Memory.lookup_insert_same (k : Nat) (b : Byte) (m : Memory) (h : ∀ c ∈ m, c.1 ≠ k) :
    Memory.lookup k (Memory.insert k b m) = b := by
  induction m with
  | nil => simp [Memory.insert, Memory.lookup]
  | cons c m ih =>
    simp only [Memory.insert]
    split
    · simp [Memory.lookup]
    · have hc := h c (by simp)
      simp [Memory.lookup, hc, ih (fun d hd => h d (by simp [hd]))]

theorem Memory.key_of_mem_erase {k : Nat} {m : Memory} : ∀ c ∈ Memory.erase k m, c.1 ≠ k := by
  intro c hc
  simpa [Memory.erase] using (List.mem_filter.mp hc).2

/-- A read after a write to the same address gives the byte written. -/
@[simp] theorem Memory.read_write_same (m : Memory) (a : Addr) (b : Byte) : (m.write a b).read a = b := by
  unfold Memory.write Memory.read
  split
  · next h => rw [Memory.lookup_erase_same, h]
  · exact Memory.lookup_insert_same _ _ _ Memory.key_of_mem_erase

/-- A write leaves every other address alone. -/
@[simp] theorem Memory.read_write_other (m : Memory) {a c : Addr} (b : Byte) (h : c ≠ a) :
    (m.write a b).read c = m.read c := by
  have hk : c.toNat ≠ a.toNat := fun e => h (BitVec.eq_of_toNat_eq e)
  unfold Memory.write Memory.read
  split
  · exact Memory.lookup_erase_other hk m
  · rw [Memory.lookup_insert_other hk, Memory.lookup_erase_other hk]

theorem Memory.wf_erase {m : Memory} (h : m.wf) (k : Nat) : (Memory.erase k m).wf :=
  ⟨h.1.filter _, fun c hc => h.2 c (List.mem_filter.mp hc).1⟩

theorem Memory.mem_insert {k : Nat} {b : Byte} {m : Memory} {c : Host.Cell} (h : c ∈ Memory.insert k b m) :
    c = (k, b) ∨ c ∈ m := by
  induction m with
  | nil => simpa [Memory.insert] using h
  | cons d m ih =>
    simp only [Memory.insert] at h
    split at h
    · simpa using h
    · rcases List.mem_cons.mp h with h | h
      · exact .inr (by simp [h])
      · exact (ih h).imp id (fun h => by simp [h])

theorem Memory.wf_insert {m : Memory} (h : m.wf) {k : Nat} (hk : k < 65536) {b : Byte} (hb : b ≠ Memory.unlisted)
    (hm : ∀ c ∈ m, c.1 ≠ k) : (Memory.insert k b m).wf := by
  constructor
  · have hp := h.1
    clear h
    induction m with
    | nil => simp [Memory.insert]
    | cons c m ih =>
      obtain ⟨h1, h2⟩ := List.pairwise_cons.mp hp
      simp only [Memory.insert]
      split
      · next hlt =>
        refine List.pairwise_cons.mpr ⟨fun d hd => ?_, hp⟩
        rcases List.mem_cons.mp hd with hd | hd
        · exact hd ▸ hlt
        · exact Nat.lt_trans hlt (h1 d hd)
      · next hge =>
        refine List.pairwise_cons.mpr ⟨fun d hd => ?_, ih (fun d hd => hm d (by simp [hd])) h2⟩
        rcases Memory.mem_insert hd with hd | hd
        · have := hm c (by simp)
          simp only [hd]
          omega
        · exact h1 d hd
  · intro c hc
    rcases Memory.mem_insert hc with hc | hc
    · exact hc ▸ ⟨hk, hb⟩
    · exact h.2 c hc

/-- Storing a byte keeps the canonical form. -/
theorem Memory.wf_write {m : Memory} (h : m.wf) (a : Addr) (b : Byte) : (m.write a b).wf := by
  unfold Memory.write
  split
  · exact Memory.wf_erase h _
  · next hb => exact Memory.wf_insert (Memory.wf_erase h _) a.isLt hb Memory.key_of_mem_erase

/-- Storing bytes keeps the canonical form. -/
theorem Memory.wf_writeAll {m : Memory} (h : m.wf) (a : Addr) (bs : List Byte) : (m.writeAll a bs).wf := by
  induction bs generalizing m a with
  | nil => exact h
  | cons b bs ih => exact ih (Memory.wf_write h a b) (a + 1)

/-- The memory of the machine after reset is in canonical form. -/
theorem Memory.wf_reset : State.reset.mem.wf := by decide

end Sys2Proof.Machine
end

