-- ==== Sys2Proof/Laws/Bus.lean ====
section
/-! SUPPORT. What the shared operations over the bus, the operands and the stack can do: each has one lemma that says it
whole, with the lines and devices as the only thing a read can change, and lemmas for the single fields. -/

namespace Sys2Proof.Machine

/-! ### The bus -/

/-- A bus read changes nothing but the lines and devices. -/
theorem busRead_state (s : State) (a : Addr) : (busRead s a).2 = { s with io := (busRead s a).2.io } := by
  unfold busRead
  split
  · rfl
  · split <;> rfl

/-- A read of RAM or ROM returns the stored byte and changes nothing. -/
theorem busRead_memory {s : State} {a : Addr} (h : s.isMemory a = true) : busRead s a = (s.mem.read a, s) := by
  simp only [State.isMemory, Bool.and_eq_true, Bool.not_eq_true', bne_iff_ne] at h
  unfold busRead
  rw [h.1]
  cases hk : kindAt s.cfg.map a <;> simp_all

/-- RAM is memory. -/
theorem isMemory_of_isRam {s : State} {a : Addr} (h : s.isRam a = true) : s.isMemory a = true := by
  simp only [State.isRam, State.isMemory, Bool.and_eq_true, beq_iff_eq, bne_iff_ne] at h ⊢
  exact ⟨h.1, by simp [h.2]⟩

/-- A bus write changes nothing but memory and the lines and devices. -/
theorem busWrite_state (s : State) (a : Addr) (b : Byte) :
    busWrite s a b = { s with mem := (busWrite s a b).mem, io := (busWrite s a b).io } := by
  unfold busWrite
  split
  · rfl
  · split <;> rfl

/-- A write to RAM stores the byte and does nothing else. -/
theorem busWrite_ram {s : State} {a : Addr} (h : s.isRam a = true) (b : Byte) :
    busWrite s a b = { s with mem := s.mem.write a b } := by
  simp only [State.isRam, Bool.and_eq_true, Bool.not_eq_true', beq_iff_eq] at h
  simp [busWrite, h.1, h.2]

/-- A write anywhere but to RAM leaves memory as it was. -/
theorem busWrite_not_ram {s : State} {a : Addr} (h : s.isRam a = false) (b : Byte) :
    (busWrite s a b).mem = s.mem := by
  unfold busWrite
  split
  · rfl
  · next hc =>
    split
    · next hk => simp [State.isRam, hc, hk] at h
    · rfl
    · rfl

/-- Memory after a bus write: with the byte stored, or as it was. -/
theorem busWrite_mem (s : State) (a : Addr) (b : Byte) :
    (busWrite s a b).mem = if s.isRam a = true then s.mem.write a b else s.mem := by
  split
  · next h => rw [busWrite_ram h]
  · next h => exact busWrite_not_ram (by simpa using h) b

/-- A bus write changes no byte at another address. -/
theorem busWrite_read_other (s : State) {a c : Addr} (b : Byte) (h : c ≠ a) :
    (busWrite s a b).mem.read c = s.mem.read c := by
  rw [busWrite_mem]
  split
  · simp [h]
  · rfl

/-- A read at an address that no VIA claims uses no more than a free value. -/
theorem busRead_unclaimed {s : State} {a : Addr} (h : s.io.claims a = false) :
    (busRead s a).2.io = { s.io with draws := (busRead s a).2.io.draws } := by
  unfold busRead
  rw [h]
  cases kindAt s.cfg.map a <;> rfl

/-- A write at an address that no VIA claims leaves the lines and devices. -/
theorem busWrite_unclaimed {s : State} {a : Addr} (h : s.io.claims a = false) (b : Byte) :
    (busWrite s a b).io = s.io := by
  unfold busWrite
  rw [h]
  cases kindAt s.cfg.map a <;> rfl

/-- A read goes to the first VIA in the list that claims the address and leaves the others. -/
theorem viasRead_first {a : Addr} {v : Via} {r : ViaReg} (hr : selectReg v.base a = some r) (d : Nat)
    (front rest : List Via) (h : ∀ u ∈ front, selectReg u.base a = none) :
    viasRead a d (front ++ v :: rest) = (v.readValue r d, front ++ v.readEffect r d :: rest) := by
  induction front with
  | nil => simp [viasRead, hr]
  | cons u us ih =>
    have hu := h u (by simp)
    simp [viasRead, hu, ih (fun w hw => h w (by simp [hw]))]

/-- A write goes to the first VIA in the list that claims the address and leaves the others. -/
theorem viasWrite_first {a : Addr} {v : Via} {r : ViaReg} (hr : selectReg v.base a = some r) (b : Byte) (d : Nat)
    (front rest : List Via) (h : ∀ u ∈ front, selectReg u.base a = none) :
    viasWrite a b d (front ++ v :: rest) = front ++ v.write r b d :: rest := by
  induction front with
  | nil => simp [viasWrite, hr]
  | cons u us ih =>
    have hu := h u (by simp)
    simp [viasWrite, hu, ih (fun w hw => h w (by simp [hw]))]

@[simp] theorem busRead_a (s : State) (a : Addr) :
    ((busRead s a).2).a = s.a := by rw [busRead_state]

@[simp] theorem busRead_x (s : State) (a : Addr) :
    ((busRead s a).2).x = s.x := by rw [busRead_state]

@[simp] theorem busRead_y (s : State) (a : Addr) :
    ((busRead s a).2).y = s.y := by rw [busRead_state]

@[simp] theorem busRead_sp (s : State) (a : Addr) :
    ((busRead s a).2).sp = s.sp := by rw [busRead_state]

@[simp] theorem busRead_pc (s : State) (a : Addr) :
    ((busRead s a).2).pc = s.pc := by rw [busRead_state]

@[simp] theorem busRead_p (s : State) (a : Addr) :
    ((busRead s a).2).p = s.p := by rw [busRead_state]

@[simp] theorem busRead_mem (s : State) (a : Addr) :
    ((busRead s a).2).mem = s.mem := by rw [busRead_state]

@[simp] theorem busRead_cycles (s : State) (a : Addr) :
    ((busRead s a).2).cycles = s.cycles := by rw [busRead_state]

@[simp] theorem busRead_cfg (s : State) (a : Addr) :
    ((busRead s a).2).cfg = s.cfg := by rw [busRead_state]

@[simp] theorem busWrite_a (s : State) (a : Addr) (b : Byte) :
    (busWrite s a b).a = s.a := by rw [busWrite_state]

@[simp] theorem busWrite_x (s : State) (a : Addr) (b : Byte) :
    (busWrite s a b).x = s.x := by rw [busWrite_state]

@[simp] theorem busWrite_y (s : State) (a : Addr) (b : Byte) :
    (busWrite s a b).y = s.y := by rw [busWrite_state]

@[simp] theorem busWrite_sp (s : State) (a : Addr) (b : Byte) :
    (busWrite s a b).sp = s.sp := by rw [busWrite_state]

@[simp] theorem busWrite_pc (s : State) (a : Addr) (b : Byte) :
    (busWrite s a b).pc = s.pc := by rw [busWrite_state]

@[simp] theorem busWrite_p (s : State) (a : Addr) (b : Byte) :
    (busWrite s a b).p = s.p := by rw [busWrite_state]

@[simp] theorem busWrite_cycles (s : State) (a : Addr) (b : Byte) :
    (busWrite s a b).cycles = s.cycles := by rw [busWrite_state]

@[simp] theorem busWrite_cfg (s : State) (a : Addr) (b : Byte) :
    (busWrite s a b).cfg = s.cfg := by rw [busWrite_state]

/-! ### The addresses VIAs claim -/

theorem event_base (dir : ShiftDir) (d : Nat) (e : ViaEvent) (v : Via) : (v.event dir d e).base = v.base := by
  cases e with
  | port side forced level => cases side <;> rfl
  | c1 side high =>
    simp only [Via.event, Via.c1Event]
    cases side <;> (repeat' split) <;> rfl
  | c2 side high =>
    simp only [Via.event, Via.c2Event]
    cases side <;> (repeat' split) <;> rfl
  | pb6Pulse =>
    simp only [Via.event, Via.pb6Pulse, Via.countT2]
    (repeat' split) <;> rfl
  | shiftPulse =>
    simp only [Via.event, Via.shiftPulse]
    (repeat' split) <;> rfl

theorem tick_base (v : Via) : v.tick.base = v.base := by
  simp only [Via.tick, Via.endPulse, Via.countT2]
  (repeat' split) <;> rfl

theorem ticks_base (n : Nat) (v : Via) : (Via.ticks n v).base = v.base := by
  induction n generalizing v with
  | zero => rfl
  | succ n ih => exact (ih v.tick).trans (tick_base v)

theorem clearPortFlags_base (side : Side) (v : Via) : (v.clearPortFlags side).base = v.base := by
  simp only [Via.clearPortFlags]
  split <;> rfl

theorem startC2_base (side : Side) (v : Via) : (v.startC2 side).base = v.base := by
  cases side <;> (simp only [Via.startC2]; split <;> rfl)

theorem maybeClearPortA_base (d : Nat) (v : Via) : (v.maybeClearPortA d).base = v.base := by
  simp only [Via.maybeClearPortA]
  (repeat' split) <;> rfl

theorem readEffect_base (r : ViaReg) (d : Nat) (v : Via) : (v.readEffect r d).base = v.base := by
  cases r <;> simp only [Via.readEffect]
  · exact clearPortFlags_base .b v
  · exact (startC2_base .a _).trans (clearPortFlags_base .a v)
  all_goals first | rfl | exact maybeClearPortA_base d v

theorem write_base (r : ViaReg) (b : Byte) (d : Nat) (v : Via) : (v.write r b d).base = v.base := by
  cases r <;> simp only [Via.write]
  · exact (startC2_base .b _).trans (clearPortFlags_base .b v)
  · exact (startC2_base .a _).trans (clearPortFlags_base .a v)
  all_goals first
    | rfl
    | exact maybeClearPortA_base d v
    | (simp only [Via.writeAcr]; split <;> rfl)

theorem modifyAt_map_base (k : Nat) (f : Via → Via) (hf : ∀ v, (f v).base = v.base) (vs : List Via) :
    (modifyAt k f vs).map Via.base = vs.map Via.base := by
  induction vs generalizing k with
  | nil => simp [modifyAt]
  | cons v vs ih => cases k <;> simp [modifyAt, hf, ih]

theorem viasRead_bases (a : Addr) (d : Nat) (vs : List Via) :
    (viasRead a d vs).2.map Via.base = vs.map Via.base := by
  induction vs with
  | nil => rfl
  | cons v vs ih =>
    simp only [viasRead]
    split <;> simp [readEffect_base, ih]

theorem viasWrite_bases (a : Addr) (b : Byte) (d : Nat) (vs : List Via) :
    (viasWrite a b d vs).map Via.base = vs.map Via.base := by
  induction vs with
  | nil => rfl
  | cons v vs ih =>
    simp only [viasWrite]
    split <;> simp [write_base, ih]

theorem resetVias_bases (d : Nat) (vs : List Via) : (resetVias d vs).map Via.base = vs.map Via.base := by
  induction vs generalizing d with
  | nil => rfl
  | cons v vs ih => simp [resetVias, ih, Via.reset]

theorem ioTick_bases (n : Nat) (io : Io) : (io.tick n).vias.map Via.base = io.vias.map Via.base := by
  simp [Io.tick, Function.comp_def, ticks_base]

theorem ioEvent_bases (cfg : Config) (io : Io) (e : EnvEvent) :
    (io.event cfg e).vias.map Via.base = io.vias.map Via.base := by
  cases e with
  | clock n =>
    simp only [Io.event]
    split
    · exact ioTick_bases n io
    · rfl
  | via k ev => exact modifyAt_map_base k _ (event_base _ _ ev) _
  | _ => rfl

theorem move_bases (cfg : Config) (io : Io) : (io.move cfg).vias.map Via.base = io.vias.map Via.base := by
  unfold Io.move
  split
  · rfl
  · next es rest _ =>
    have : ∀ (es : List EnvEvent) (j : Io),
        (es.foldl (Io.event cfg) j).vias.map Via.base = j.vias.map Via.base := by
      intro es
      induction es with
      | nil => intro j; rfl
      | cons e es ih => intro j; exact (ih _).trans (ioEvent_bases cfg j e)
    exact this es _

theorem settle_bases (cfg : Config) (io : Io) : (io.settle cfg).vias.map Via.base = io.vias.map Via.base := by
  simp only [Io.settle]
  split
  · exact move_bases cfg io
  · exact (ioTick_bases _ _).trans (move_bases cfg io)

theorem claims_of_bases {io j : Io} (h : j.vias.map Via.base = io.vias.map Via.base) (a : Addr) :
    j.claims a = io.claims a := by
  have key : ∀ io : Io, io.claims a = (io.vias.map Via.base).any (fun b => (selectReg b a).isSome) := by
    intro io
    simp [Io.claims, List.any_map, Function.comp_def]
  rw [key, key, h]

theorem busRead_bases (s : State) (a : Addr) :
    (busRead s a).2.io.vias.map Via.base = s.io.vias.map Via.base := by
  unfold busRead
  split
  · exact (viasRead_bases _ _ _).trans (settle_bases _ _)
  · split <;> rfl

theorem busWrite_bases (s : State) (a : Addr) (b : Byte) :
    (busWrite s a b).io.vias.map Via.base = s.io.vias.map Via.base := by
  unfold busWrite
  split
  · exact (viasWrite_bases _ _ _ _).trans (settle_bases _ _)
  · split <;> rfl

/-- What answers at an address depends on the parameters and on the addresses of the VIAs alone. -/
theorem isRam_congr {s t : State} (hc : t.cfg = s.cfg) (hb : t.io.vias.map Via.base = s.io.vias.map Via.base)
    (a : Addr) : t.isRam a = s.isRam a := by
  simp only [State.isRam, hc, claims_of_bases hb]

/-- What answers at an address depends on the parameters and on the addresses of the VIAs alone. -/
theorem isMemory_congr {s t : State} (hc : t.cfg = s.cfg) (hb : t.io.vias.map Via.base = s.io.vias.map Via.base)
    (a : Addr) : t.isMemory a = s.isMemory a := by
  simp only [State.isMemory, hc, claims_of_bases hb]

@[simp] theorem isRam_busRead (s : State) (a c : Addr) : (busRead s a).2.isRam c = s.isRam c :=
  isRam_congr (by simp) (busRead_bases s a) c

@[simp] theorem isRam_busWrite (s : State) (a c : Addr) (b : Byte) : (busWrite s a b).isRam c = s.isRam c :=
  isRam_congr (by simp) (busWrite_bases s a b) c

@[simp] theorem isMemory_busRead (s : State) (a c : Addr) : (busRead s a).2.isMemory c = s.isMemory c :=
  isMemory_congr (by simp) (busRead_bases s a) c

@[simp] theorem isMemory_busWrite (s : State) (a c : Addr) (b : Byte) :
    (busWrite s a b).isMemory c = s.isMemory c :=
  isMemory_congr (by simp) (busWrite_bases s a b) c

/-! ### Accesses that no rule lists (R57, log entry 18) -/

/-- Where no VIA answers there are none. -/
theorem unlistedAccesses_unclaimed {s : State} {a : Addr} (h : s.io.claims a = false) (w : Bool) :
    unlistedAccesses w a s = s := by simp [unlistedAccesses, h]

/-- What they keep: a property that reads, writes at an address a VIA claims, and free values keep. -/
theorem unlistedAccesses_induct {a : Addr} {Q : State → Prop} (w : Bool)
    (read : ∀ t, t.io.claims a = true → Q t → Q (busRead t a).2)
    (write : ∀ t b, t.io.claims a = true → Q t → Q (busWrite t a b))
    (draw : ∀ t : State, Q t → Q { t with io := t.io.draw 1 }) {s : State} (hs : Q s) :
    Q (unlistedAccesses w a s) := by
  unfold unlistedAccesses
  split
  case isFalse => exact hs
  case isTrue hc =>
    have key : ∀ (n : Nat) (t : State), t.io.claims a = true → Q t → Q (repeatAccess w a n t) := by
      intro n
      induction n with
      | zero => exact fun t _ ht => ht
      | succ n ih =>
        intro t ht hq
        have hd : ({ t with io := t.io.draw 1 } : State).io.claims a = true := ht
        refine ih _ ?_ ?_ <;> simp only [unlistedAccess] <;> split
        · rw [claims_of_bases (busWrite_bases _ _ _), hd]
        · rw [claims_of_bases (busRead_bases _ _), hd]
        · exact write _ _ hd (draw t hq)
        · exact read _ hd (draw t hq)
    exact key _ _ hc (draw s hs)

/-- They change nothing but the lines and devices. -/
theorem unlistedAccesses_state (w : Bool) (a : Addr) (s : State) :
    unlistedAccesses w a s = { s with io := (unlistedAccesses w a s).io } := by
  refine unlistedAccesses_induct (Q := fun t => t = { s with io := t.io }) w ?_ ?_ ?_ rfl
  · intro t _ ht
    rw [busRead_state, ht]
  · intro t b hc ht
    have : busWrite t a b = { t with io := (busWrite t a b).io } := by
      simp [busWrite, hc]
    rw [this, ht]
  · intro t ht
    rw [ht]

theorem unlistedAccesses_bases (w : Bool) (a : Addr) (s : State) :
    (unlistedAccesses w a s).io.vias.map Via.base = s.io.vias.map Via.base :=
  unlistedAccesses_induct (Q := fun t => t.io.vias.map Via.base = s.io.vias.map Via.base) w
    (fun _ _ ht => (busRead_bases _ _).trans ht) (fun _ _ _ ht => (busWrite_bases _ _ _).trans ht)
    (fun _ ht => ht) rfl

/-- An indexed address whose own place and whose uncorrected place no VIA claims is formed without any access. -/
theorem indexed_unclaimed {s : State} {base ea : Addr} (he : s.io.claims ea = false)
    (hu : s.io.claims (uncorrected base ea) = false) : indexed base ea s = (ea, s) := by
  simp only [indexed]
  rw [unlistedAccesses_unclaimed hu, unlistedAccesses_unclaimed he]

/-- Forming an indexed address changes nothing but the lines and devices. -/
theorem indexed_state (base ea : Addr) (s : State) :
    (indexed base ea s).2 = { s with io := (indexed base ea s).2.io } := by
  simp only [indexed]
  rw [unlistedAccesses_state, unlistedAccesses_state false (uncorrected base ea) s]

theorem indexed_bases (base ea : Addr) (s : State) :
    (indexed base ea s).2.io.vias.map Via.base = s.io.vias.map Via.base :=
  (unlistedAccesses_bases _ _ _).trans (unlistedAccesses_bases _ _ _)

@[simp] theorem indexed_fst (base ea : Addr) (s : State) : (indexed base ea s).1 = ea := rfl

@[simp] theorem unlistedAccesses_a (w : Bool) (a : Addr) (s : State) :
    (unlistedAccesses w a s).a = s.a := by rw [unlistedAccesses_state]

@[simp] theorem unlistedAccesses_x (w : Bool) (a : Addr) (s : State) :
    (unlistedAccesses w a s).x = s.x := by rw [unlistedAccesses_state]

@[simp] theorem unlistedAccesses_y (w : Bool) (a : Addr) (s : State) :
    (unlistedAccesses w a s).y = s.y := by rw [unlistedAccesses_state]

@[simp] theorem unlistedAccesses_sp (w : Bool) (a : Addr) (s : State) :
    (unlistedAccesses w a s).sp = s.sp := by rw [unlistedAccesses_state]

@[simp] theorem unlistedAccesses_pc (w : Bool) (a : Addr) (s : State) :
    (unlistedAccesses w a s).pc = s.pc := by rw [unlistedAccesses_state]

@[simp] theorem unlistedAccesses_p (w : Bool) (a : Addr) (s : State) :
    (unlistedAccesses w a s).p = s.p := by rw [unlistedAccesses_state]

@[simp] theorem unlistedAccesses_mem (w : Bool) (a : Addr) (s : State) :
    (unlistedAccesses w a s).mem = s.mem := by rw [unlistedAccesses_state]

@[simp] theorem unlistedAccesses_cycles (w : Bool) (a : Addr) (s : State) :
    (unlistedAccesses w a s).cycles = s.cycles := by rw [unlistedAccesses_state]

@[simp] theorem unlistedAccesses_cfg (w : Bool) (a : Addr) (s : State) :
    (unlistedAccesses w a s).cfg = s.cfg := by rw [unlistedAccesses_state]

@[simp] theorem isRam_unlistedAccesses (w : Bool) (a c : Addr) (s : State) :
    (unlistedAccesses w a s).isRam c = s.isRam c :=
  isRam_congr (by simp) (unlistedAccesses_bases w a s) c

/-! ### Pairs of bytes and operands -/

/-- Reading a pair of bytes changes nothing but the lines and devices. -/
theorem busReadPair_state (s : State) (lo hi : Addr) :
    (busReadPair s lo hi).2 = { s with io := (busReadPair s lo hi).2.io } := by
  simp only [busReadPair]
  rw [busRead_state (busRead s lo).2 hi]
  simp

/-- A pair of bytes in RAM or ROM, the first the low-order one. -/
theorem busReadPair_memory {s : State} {lo hi : Addr} (hl : s.isMemory lo = true) (hh : s.isMemory hi = true) :
    busReadPair s lo hi = (mkAddr (s.mem.read hi) (s.mem.read lo), s) := by
  simp [busReadPair, busRead_memory hl, busRead_memory hh]

/-- Forming an effective address changes nothing but the lines and devices. -/
theorem ea_state (p : Place) (s : State) : (p.ea s).2 = { s with io := (p.ea s).2.io } := by
  cases p <;> first | rfl | exact indexed_state .. | skip
  all_goals
    simp only [Place.ea]
    rw [indexed_state, readPointer, busReadPair_state]

theorem ea_bases (p : Place) (s : State) : (p.ea s).2.io.vias.map Via.base = s.io.vias.map Via.base := by
  have pair : ∀ z, (readPointer s z).2.io.vias.map Via.base = s.io.vias.map Via.base := fun z =>
    (busRead_bases _ _).trans (busRead_bases _ _)
  cases p <;> first | rfl | exact indexed_bases .. | exact (indexed_bases _ _ _).trans (pair _)

/-- Reading an operand changes nothing but the lines and devices. -/
theorem operandRead_state (o : Operand) (s : State) : (o.read s).2 = { s with io := (o.read s).2.io } := by
  cases o with
  | imm b => rfl
  | mem p =>
    simp only [Operand.read]
    rw [busRead_state, ea_state]

@[simp] theorem busReadPair_a (s : State) (lo hi : Addr) :
    ((busReadPair s lo hi).2).a = s.a := by rw [busReadPair_state]

@[simp] theorem busReadPair_x (s : State) (lo hi : Addr) :
    ((busReadPair s lo hi).2).x = s.x := by rw [busReadPair_state]

@[simp] theorem busReadPair_y (s : State) (lo hi : Addr) :
    ((busReadPair s lo hi).2).y = s.y := by rw [busReadPair_state]

@[simp] theorem busReadPair_sp (s : State) (lo hi : Addr) :
    ((busReadPair s lo hi).2).sp = s.sp := by rw [busReadPair_state]

@[simp] theorem busReadPair_pc (s : State) (lo hi : Addr) :
    ((busReadPair s lo hi).2).pc = s.pc := by rw [busReadPair_state]

@[simp] theorem busReadPair_p (s : State) (lo hi : Addr) :
    ((busReadPair s lo hi).2).p = s.p := by rw [busReadPair_state]

@[simp] theorem busReadPair_mem (s : State) (lo hi : Addr) :
    ((busReadPair s lo hi).2).mem = s.mem := by rw [busReadPair_state]

@[simp] theorem busReadPair_cycles (s : State) (lo hi : Addr) :
    ((busReadPair s lo hi).2).cycles = s.cycles := by rw [busReadPair_state]

@[simp] theorem busReadPair_cfg (s : State) (lo hi : Addr) :
    ((busReadPair s lo hi).2).cfg = s.cfg := by rw [busReadPair_state]

@[simp] theorem ea_a (p : Place) (s : State) :
    ((p.ea s).2).a = s.a := by rw [ea_state]

@[simp] theorem ea_x (p : Place) (s : State) :
    ((p.ea s).2).x = s.x := by rw [ea_state]

@[simp] theorem ea_y (p : Place) (s : State) :
    ((p.ea s).2).y = s.y := by rw [ea_state]

@[simp] theorem ea_sp (p : Place) (s : State) :
    ((p.ea s).2).sp = s.sp := by rw [ea_state]

@[simp] theorem ea_pc (p : Place) (s : State) :
    ((p.ea s).2).pc = s.pc := by rw [ea_state]

@[simp] theorem ea_p (p : Place) (s : State) :
    ((p.ea s).2).p = s.p := by rw [ea_state]

@[simp] theorem ea_mem (p : Place) (s : State) :
    ((p.ea s).2).mem = s.mem := by rw [ea_state]

@[simp] theorem ea_cycles (p : Place) (s : State) :
    ((p.ea s).2).cycles = s.cycles := by rw [ea_state]

@[simp] theorem ea_cfg (p : Place) (s : State) :
    ((p.ea s).2).cfg = s.cfg := by rw [ea_state]

@[simp] theorem operandRead_a (o : Operand) (s : State) :
    ((o.read s).2).a = s.a := by rw [operandRead_state]

@[simp] theorem operandRead_x (o : Operand) (s : State) :
    ((o.read s).2).x = s.x := by rw [operandRead_state]

@[simp] theorem operandRead_y (o : Operand) (s : State) :
    ((o.read s).2).y = s.y := by rw [operandRead_state]

@[simp] theorem operandRead_sp (o : Operand) (s : State) :
    ((o.read s).2).sp = s.sp := by rw [operandRead_state]

@[simp] theorem operandRead_pc (o : Operand) (s : State) :
    ((o.read s).2).pc = s.pc := by rw [operandRead_state]

@[simp] theorem operandRead_p (o : Operand) (s : State) :
    ((o.read s).2).p = s.p := by rw [operandRead_state]

@[simp] theorem operandRead_mem (o : Operand) (s : State) :
    ((o.read s).2).mem = s.mem := by rw [operandRead_state]

@[simp] theorem operandRead_cycles (o : Operand) (s : State) :
    ((o.read s).2).cycles = s.cycles := by rw [operandRead_state]

@[simp] theorem operandRead_cfg (o : Operand) (s : State) :
    ((o.read s).2).cfg = s.cfg := by rw [operandRead_state]

/-! ### Stores and read-modify-write -/

/-- RAM is claimed by no VIA. -/
theorem claims_of_isRam {s : State} {a : Addr} (h : s.isRam a = true) : s.io.claims a = false := by
  simp only [State.isRam, Bool.and_eq_true, Bool.not_eq_true'] at h
  exact h.1

/-- A store changes nothing but memory and the lines and devices. -/
theorem store_state (p : Place) (b : Byte) (s : State) :
    p.store b s = { s with mem := (p.store b s).mem, io := (p.store b s).io } := by
  simp only [Place.store]
  rw [busWrite_state, ea_state]

/-- Reading a byte of memory and writing it back: the flags, and what the bus write does; nothing else. -/
theorem modify_state (p : Place) (f : Flags → Byte → Byte × Flags) (s : State) :
    (Target.mem p).modify f s =
      { s with
        p := (f s.p (Operand.read (.mem p) s).1).2
        mem := ((Target.mem p).modify f s).mem, io := ((Target.mem p).modify f s).io } := by
  simp only [Target.modify, Operand.read]
  rw [busWrite_state]
  simp

/-- In RAM the byte at the effective address is the result, and nothing else of memory, lines and devices is changed by
the write. -/
theorem modify_ram {p : Place} {s : State} (f : Flags → Byte → Byte × Flags) (h : s.isRam (p.ea s).1 = true) :
    (Target.mem p).modify f s =
      { s with
        p := (f s.p (Operand.read (.mem p) s).1).2
        mem := s.mem.write (p.ea s).1 (f s.p (Operand.read (.mem p) s).1).1
        io := (Operand.read (.mem p) s).2.io } := by
  have hr : (busRead (p.ea s).2 (p.ea s).1).2.isRam (p.ea s).1 = true := by
    rw [isRam_busRead, isRam_congr (ea_cfg p s) (ea_bases p s), h]
  simp only [Target.modify, Operand.read]
  rw [unlistedAccesses_unclaimed (claims_of_isRam hr), busWrite_ram hr]
  simp

/-! ### The stack -/

/-- A push writes one byte and moves the stack pointer; nothing else but the lines and devices can change. -/
theorem push_state (b : Byte) (s : State) :
    push b s = { s with sp := s.sp - 1, mem := (push b s).mem, io := (push b s).io } := by
  simp only [push]
  rw [busWrite_state]

/-- A pull moves the stack pointer; nothing else but the lines and devices can change. -/
theorem pull_state (s : State) : (pull s).2 = { s with sp := s.sp + 1, io := (pull s).2.io } := by
  simp only [pull]
  rw [busRead_state]

/-- An instruction pushes onto itself exactly when one of the addresses pushed to is that of one of its bytes. -/
theorem landsOnItself_iff {pushed : List Addr} {len : Nat} (hl : len ≤ 65536) (s : State) :
    landsOnItself pushed len s = true ↔ ∃ a ∈ pushed, ∃ k, k < len ∧ a = s.pc + BitVec.ofNat 16 k := by
  simp only [landsOnItself, List.any_eq_true, decide_eq_true_eq]
  refine exists_congr fun a => and_congr_right fun _ => ⟨fun h => ⟨_, h, ?_⟩, ?_⟩
  · rw [BitVec.ofNat_toNat, BitVec.setWidth_eq]
    bv_omega
  · rintro ⟨k, hk, rfl⟩
    have : (s.pc + BitVec.ofNat 16 k - s.pc).toNat = k := by
      have e : s.pc + BitVec.ofNat 16 k - s.pc = BitVec.ofNat 16 k := by bv_omega
      rw [e, BitVec.toNat_ofNat, Nat.mod_eq_of_lt (by omega)]
    rw [this]
    exact hk

/-- An instruction that pushes has a next state only where it does not push onto itself, and then the one given. -/
theorem unlessOntoItself_next {pushed : List Addr} {len : Nat} {s u t : State} :
    unlessOntoItself pushed len s u = .next t ↔ landsOnItself pushed len s = false ∧ u = t := by
  unfold unlessOntoItself
  cases landsOnItself pushed len s <;> simp

/-- A push in RAM. -/
theorem push_ram {s : State} (h : s.isRam (stackAddr s.sp) = true) (b : Byte) :
    push b s = { s with sp := s.sp - 1, mem := s.mem.write (stackAddr s.sp) b } := by
  simp only [push]
  rw [busWrite_ram h]

/-- A pull from RAM or ROM. -/
theorem pull_memory {s : State} (h : s.isMemory (stackAddr (s.sp + 1)) = true) :
    pull s = (s.mem.read (stackAddr (s.sp + 1)), { s with sp := s.sp + 1 }) := by
  have h' : ({ s with sp := s.sp + 1 } : State).isMemory (stackAddr (s.sp + 1)) = true := h
  simp only [pull]
  rw [busRead_memory h']

/-- A push changes no byte but the one at `$0100 + SP`. -/
theorem push_read_other (b : Byte) (s : State) {c : Addr} (h : c ≠ stackAddr s.sp) :
    (push b s).mem.read c = s.mem.read c := busWrite_read_other s b h

theorem push_bases (b : Byte) (s : State) : (push b s).io.vias.map Via.base = s.io.vias.map Via.base :=
  busWrite_bases s _ b

theorem pull_bases (s : State) : (pull s).2.io.vias.map Via.base = s.io.vias.map Via.base :=
  busRead_bases { s with sp := s.sp + 1 } _

@[simp] theorem push_a (b : Byte) (s : State) :
    (push b s).a = s.a := by rw [push_state]

@[simp] theorem push_x (b : Byte) (s : State) :
    (push b s).x = s.x := by rw [push_state]

@[simp] theorem push_y (b : Byte) (s : State) :
    (push b s).y = s.y := by rw [push_state]

@[simp] theorem push_sp (b : Byte) (s : State) :
    (push b s).sp = s.sp - 1 := by rw [push_state]

@[simp] theorem push_pc (b : Byte) (s : State) :
    (push b s).pc = s.pc := by rw [push_state]

@[simp] theorem push_p (b : Byte) (s : State) :
    (push b s).p = s.p := by rw [push_state]

@[simp] theorem push_cycles (b : Byte) (s : State) :
    (push b s).cycles = s.cycles := by rw [push_state]

@[simp] theorem push_cfg (b : Byte) (s : State) :
    (push b s).cfg = s.cfg := by rw [push_state]

@[simp] theorem pull_a (s : State) :
    ((pull s).2).a = s.a := by rw [pull_state]

@[simp] theorem pull_x (s : State) :
    ((pull s).2).x = s.x := by rw [pull_state]

@[simp] theorem pull_y (s : State) :
    ((pull s).2).y = s.y := by rw [pull_state]

@[simp] theorem pull_sp (s : State) :
    ((pull s).2).sp = s.sp + 1 := by rw [pull_state]

@[simp] theorem pull_pc (s : State) :
    ((pull s).2).pc = s.pc := by rw [pull_state]

@[simp] theorem pull_p (s : State) :
    ((pull s).2).p = s.p := by rw [pull_state]

@[simp] theorem pull_mem (s : State) :
    ((pull s).2).mem = s.mem := by rw [pull_state]

@[simp] theorem pull_cycles (s : State) :
    ((pull s).2).cycles = s.cycles := by rw [pull_state]

@[simp] theorem pull_cfg (s : State) :
    ((pull s).2).cfg = s.cfg := by rw [pull_state]

end Sys2Proof.Machine
end

