-- ==== Sys2Proof/Laws/Closed.lean ====
section
/-! SUPPORT. A property of memory, lines and devices that every bus access and every free value keeps is kept by every
instruction and by every entry of an interrupt. -/

namespace Sys2Proof.Machine

/-- A property of states that speaks of memory, the lines and devices and the parameters only, and that each bus
access and each free value keeps. -/
structure Closed (Q : State → Prop) : Prop where
  /-- A bus read keeps it. -/
  read : ∀ s a, Q s → Q (busRead s a).2
  /-- A bus write keeps it. -/
  write : ∀ s a b, Q s → Q (busWrite s a b)
  /-- Using free values keeps it. -/
  draw : ∀ s n, Q s → Q { s with io := s.io.draw n }
  /-- It does not depend on the registers. -/
  registers : ∀ {s}, Q s → ∀ t, t.mem = s.mem → t.io = s.io → t.cfg = s.cfg → Q t

variable {Q : State → Prop}

theorem Closed.readPair (h : Closed Q) {s : State} (lo hi : Addr) (hs : Q s) : Q (busReadPair s lo hi).2 :=
  h.read _ _ (h.read _ _ hs)

theorem Closed.unlistedAccesses (h : Closed Q) (w : Bool) (a : Addr) {s : State} (hs : Q s) :
    Q (unlistedAccesses w a s) :=
  unlistedAccesses_induct w (fun t _ ht => h.read t a ht) (fun t b _ ht => h.write t a b ht) (fun t ht => h.draw t 1 ht)
    hs

theorem Closed.indexed (h : Closed Q) (base ea : Addr) {s : State} (hs : Q s) : Q (indexed base ea s).2 :=
  h.unlistedAccesses _ _ (h.unlistedAccesses _ _ hs)

theorem Closed.ea (h : Closed Q) (p : Place) {s : State} (hs : Q s) : Q (p.ea s).2 := by
  cases p <;> first | exact hs | exact h.indexed _ _ hs | exact h.indexed _ _ (h.readPair _ _ hs)

theorem Closed.operandRead (h : Closed Q) (o : Operand) {s : State} (hs : Q s) : Q (o.read s).2 := by
  cases o with
  | imm b => exact hs
  | mem p => exact h.read _ _ (h.ea p hs)

theorem Closed.store (h : Closed Q) (p : Place) (b : Byte) {s : State} (hs : Q s) : Q (p.store b s) :=
  h.write _ _ _ (h.ea p hs)

theorem Closed.modify (h : Closed Q) (t : Target) (f : Flags → Byte → Byte × Flags) {s : State} (hs : Q s) :
    Q (t.modify f s) := by
  cases t with
  | acc => exact h.registers hs _ rfl rfl rfl
  | mem p => exact h.registers (h.write _ _ _ (h.unlistedAccesses _ _ (h.read _ _ (h.ea p hs)))) _ rfl rfl rfl

theorem Closed.push (h : Closed Q) (b : Byte) {s : State} (hs : Q s) : Q (push b s) :=
  h.registers (h.write _ (stackAddr s.sp) b hs) _ rfl rfl rfl

theorem Closed.pull (h : Closed Q) {s : State} (hs : Q s) : Q (pull s).2 :=
  h.read _ _ (h.registers hs _ rfl rfl rfl)

theorem Closed.pushAddr (h : Closed Q) (a : Addr) {s : State} (hs : Q s) : Q (pushAddr a s) :=
  h.push _ (h.push _ hs)

theorem Closed.pullAddr (h : Closed Q) {s : State} (hs : Q s) : Q (pullAddr s).2 := h.pull (h.pull hs)

theorem Closed.pushStatus (h : Closed Q) (brk : Bool) {s : State} (hs : Q s) : Q (pushStatus brk s) :=
  h.push _ (h.draw _ _ hs)

theorem Closed.pullStatus (h : Closed Q) {s : State} (hs : Q s) : Q (pullStatus s) :=
  h.registers (h.pull hs) _ rfl rfl rfl

theorem Closed.jumpThrough (h : Closed Q) (vector : Addr) {s : State} (hs : Q s) : Q (jumpThrough vector s) :=
  h.registers (h.readPair vector (vector + 1) hs) _ rfl rfl rfl

theorem Closed.setBreak (h : Closed Q) {s : State} (hs : Q s) : Q (setBreak s) := h.registers hs _ rfl rfl rfl

theorem Closed.enterInterrupt (h : Closed Q) (brk : Bool) (ret vector : Addr) {s : State} (hs : Q s) :
    Q (enterInterrupt brk ret vector s) := by
  cases brk
  · exact h.jumpThrough _ (h.registers (h.setBreak (h.pushStatus false (h.pushAddr ret hs))) _ rfl rfl rfl)
  · exact h.jumpThrough _ (h.registers (h.pushStatus true (h.pushAddr ret (h.setBreak hs))) _ rfl rfl rfl)

theorem Closed.readJumpTarget (h : Closed Q) (ptr : Addr) {s : State} (hs : Q s) : Q (readJumpTarget ptr s).2 := by
  unfold Machine.readJumpTarget
  split
  · split
    · exact h.readPair _ _ hs
    · exact h.readPair _ _ hs
    · exact h.draw _ _ (h.read _ _ hs)
  · exact h.readPair _ _ hs

theorem Closed.drawDecimal (h : Closed Q) {s : State} (hs : Q s) : Q (drawDecimal s) := by
  unfold Machine.drawDecimal
  split
  · exact h.draw _ _ hs
  · exact hs

theorem Closed.advance (h : Closed Q) (n : Nat) {s : State} (hs : Q s) : Q (s.advance n) :=
  h.registers hs _ rfl rfl rfl

/-! ### The shared meanings -/

theorem Closed.adc (h : Closed Q) (o : Operand) {s : State} (hs : Q s) : Q (adc o s) :=
  h.registers (h.drawDecimal (h.operandRead o hs)) _ rfl rfl rfl

theorem Closed.sbc (h : Closed Q) (o : Operand) {s : State} (hs : Q s) : Q (sbc o s) :=
  h.registers (h.drawDecimal (h.operandRead o hs)) _ rfl rfl rfl

theorem Closed.compareWith (h : Closed Q) (r : Byte) (o : Operand) {s : State} (hs : Q s) : Q (compareWith r o s) :=
  h.registers (h.operandRead o hs) _ rfl rfl rfl

theorem Closed.cmp (h : Closed Q) (o : Operand) {s : State} (hs : Q s) : Q (cmp o s) := h.compareWith _ o hs

theorem Closed.cpx (h : Closed Q) (o : Operand) {s : State} (hs : Q s) : Q (cpx o s) := h.compareWith _ o hs

theorem Closed.cpy (h : Closed Q) (o : Operand) {s : State} (hs : Q s) : Q (cpy o s) := h.compareWith _ o hs

theorem Closed.incMem (h : Closed Q) (p : Place) {s : State} (hs : Q s) : Q (incMem p s) :=
  h.advance _ (h.modify _ _ hs)

theorem Closed.decMem (h : Closed Q) (p : Place) {s : State} (hs : Q s) : Q (decMem p s) :=
  h.advance _ (h.modify _ _ hs)

theorem Closed.logic (h : Closed Q) (f : Byte → Byte → Byte) (o : Operand) {s : State} (hs : Q s) :
    Q (logic f o s) :=
  h.registers (h.operandRead o hs) _ rfl rfl rfl

theorem Closed.andA (h : Closed Q) (o : Operand) {s : State} (hs : Q s) : Q (andA o s) := h.logic _ o hs

theorem Closed.oraA (h : Closed Q) (o : Operand) {s : State} (hs : Q s) : Q (oraA o s) := h.logic _ o hs

theorem Closed.eorA (h : Closed Q) (o : Operand) {s : State} (hs : Q s) : Q (eorA o s) := h.logic _ o hs

theorem Closed.bitTest (h : Closed Q) (o : Operand) {s : State} (hs : Q s) : Q (bitTest o s) :=
  h.registers (h.operandRead o hs) _ rfl rfl rfl

theorem Closed.shift (h : Closed Q) (k : Shift) (t : Target) {s : State} (hs : Q s) : Q (shift k t s) :=
  h.advance _ (h.modify _ _ hs)

theorem Closed.branch (h : Closed Q) (c : Bool) (d : Byte) {s : State} (hs : Q s) : Q (branch c d s) := by
  cases c <;> exact h.registers hs _ rfl rfl rfl

theorem Closed.jump (h : Closed Q) {t : Addr × State} (hs : Q t.2) : Q (jump t) := h.registers hs _ rfl rfl rfl

theorem Closed.callSubroutine (h : Closed Q) (a : Addr) {s : State} (hs : Q s) : Q (callSubroutine a s) :=
  h.registers (h.pushAddr (s.pc + 2) hs) _ rfl rfl rfl

theorem Closed.returnFromSubroutine (h : Closed Q) {s : State} (hs : Q s) : Q (returnFromSubroutine s) :=
  h.registers (h.pullAddr hs) _ rfl rfl rfl

theorem Closed.returnFromInterrupt (h : Closed Q) {s : State} (hs : Q s) : Q (returnFromInterrupt s) :=
  h.registers (h.pullAddr (h.pullStatus hs)) _ rfl rfl rfl

theorem Closed.lda (h : Closed Q) (o : Operand) {s : State} (hs : Q s) : Q (lda o s) :=
  h.registers (h.operandRead o hs) _ rfl rfl rfl

theorem Closed.ldx (h : Closed Q) (o : Operand) {s : State} (hs : Q s) : Q (ldx o s) :=
  h.registers (h.operandRead o hs) _ rfl rfl rfl

theorem Closed.ldy (h : Closed Q) (o : Operand) {s : State} (hs : Q s) : Q (ldy o s) :=
  h.registers (h.operandRead o hs) _ rfl rfl rfl

theorem Closed.sta (h : Closed Q) (p : Place) {s : State} (hs : Q s) : Q (sta p s) := h.advance _ (h.store p _ hs)

theorem Closed.stx (h : Closed Q) (p : Place) {s : State} (hs : Q s) : Q (stx p s) := h.advance _ (h.store p _ hs)

theorem Closed.sty (h : Closed Q) (p : Place) {s : State} (hs : Q s) : Q (sty p s) := h.advance _ (h.store p _ hs)

theorem Closed.pullA (h : Closed Q) {s : State} (hs : Q s) : Q (pullA s) :=
  h.registers (h.pull hs) _ rfl rfl rfl

/-- Every instruction keeps a closed property. -/
theorem Closed.exec (h : Closed Q) (i : Instr) {s : State} (hs : Q s) {t : State} (he : exec i s = .next t) : Q t := by
  have r1 : ∀ t : State, t.mem = s.mem → t.io = s.io → t.cfg = s.cfg → Q t := fun t => h.registers hs t
  have next : ∀ u : State, Host.Outcome.next u = (.next t : Host.Outcome State Fault Refusal) → Q u → Q t := by
    intro u hu
    cases hu
    exact id
  cases i
  case jsr addr => exact (unlessOntoItself_next.mp he).2 ▸ h.callSubroutine addr hs
  case brk => exact (unlessOntoItself_next.mp he).2 ▸ h.enterInterrupt true (s.pc + 2) irqVector hs
  all_goals refine next _ he ?_
  all_goals
    first
    | with_reducible exact h.adc _ hs
    | with_reducible exact h.sbc _ hs
    | with_reducible exact h.cmp _ hs
    | with_reducible exact h.cpx _ hs
    | with_reducible exact h.cpy _ hs
    | with_reducible exact h.incMem _ hs
    | with_reducible exact h.decMem _ hs
    | with_reducible exact h.andA _ hs
    | with_reducible exact h.oraA _ hs
    | with_reducible exact h.eorA _ hs
    | with_reducible exact h.bitTest _ hs
    | with_reducible exact h.shift _ _ hs
    | with_reducible exact h.branch _ _ hs
    | with_reducible exact h.lda _ hs
    | with_reducible exact h.ldx _ hs
    | with_reducible exact h.ldy _ hs
    | with_reducible exact h.sta _ hs
    | with_reducible exact h.stx _ hs
    | with_reducible exact h.sty _ hs
    | with_reducible exact h.jump hs
    | with_reducible exact h.jump (h.readJumpTarget _ hs)
    | with_reducible exact h.returnFromSubroutine hs
    | with_reducible exact h.returnFromInterrupt hs
    | with_reducible exact h.pullA hs
    | with_reducible exact h.advance _ (h.push _ hs)
    | with_reducible exact h.advance _ (h.pushStatus _ hs)
    | with_reducible exact h.advance _ (h.pullStatus hs)
    | exact r1 _ rfl rfl rfl

end Sys2Proof.Machine
end

