-- ==== Sys2Proof/Laws/Decode.lean ====
section
/-! SUPPORT. What the opcode map can answer, and what it answers for bytes whose operation code it lists. -/

namespace Sys2Proof

open Sys2Proof.Machine

/-- What a form says of the instructions it makes: their operation code, their operand bytes and their length. -/
def Form.Fits (op : Byte) : Form → Prop
  | .alone i => i.opcode = op ∧ i.operandBytes = [] ∧ i.mode.length = 1
  | .byte mk => ∀ b, (mk b).opcode = op ∧ (mk b).operandBytes = [b] ∧ (mk b).mode.length = 2
  | .word mk => ∀ a, (mk a).opcode = op ∧ (mk a).operandBytes = [loByte a, hiByte a] ∧ (mk a).mode.length = 3

/-- A listed operation code has a form that fits it. -/
theorem opcodeForm_fits {op : Byte} {f : Form} (h : opcodeForm op = some f) : f.Fits op := by
  have key : ∀ n, n < 256 → op = BitVec.ofNat 8 n → f.Fits op := by
    intro n hn e
    subst e
    interval_cases n <;> cases h <;> first | exact ⟨rfl, rfl, rfl⟩ | exact fun _ => ⟨rfl, rfl, rfl⟩
  exact key op.toNat op.isLt (by simp)

/-- A one-byte instruction decodes from its operation code. -/
theorem decode_alone {op : Byte} {i : Instr} (h : opcodeForm op = some (.alone i)) (rest : List Byte) :
    decode (op :: rest) = .ok (i, rest) := by simp [decode, h]

/-- A two-byte instruction decodes from its operation code and the byte after it. -/
theorem decode_byte {op : Byte} {mk : Byte → Instr} (h : opcodeForm op = some (.byte mk)) (b : Byte)
    (rest : List Byte) : decode (op :: b :: rest) = .ok (mk b, rest) := by simp [decode, h]

/-- A three-byte instruction decodes from its operation code and the two bytes after it, low-order byte first. -/
theorem decode_word {op : Byte} {mk : Addr → Instr} (h : opcodeForm op = some (.word mk)) (lo hi : Byte)
    (rest : List Byte) : decode (op :: lo :: hi :: rest) = .ok (mk (mkAddr hi lo), rest) := by simp [decode, h]

end Sys2Proof
end

