-- ==== Sys2Proof/Laws/PerInstr.lean ====
section
/-! SUPPORT. What the opcode map of Table II says of each instruction, one lemma per constructor. -/

namespace Sys2Proof.Laws.Encoding

open Sys2Proof.Machine (loByte hiByte)

/-- A form makes the instruction from the operand bytes the encoder writes for it. -/
def Makes (i : Instr) : Form → Prop
  | .alone j => j = i ∧ i.operandBytes = []
  | .byte mk => ∃ b, mk b = i ∧ i.operandBytes = [b]
  | .word mk => ∃ a, mk a = i ∧ i.operandBytes = [loByte a, hiByte a]

/-- The operation code of the instruction is listed, with a form that makes the instruction and has the length of its
addressing mode (R82, R100). -/
def Statement (i : Instr) : Prop :=
  ∃ f, opcodeForm i.opcode = some f ∧ Makes i f ∧ f.length = i.mode.length

theorem adcIndx (zp : Byte) : Statement (.adcIndx zp) := ⟨.byte .adcIndx, rfl, ⟨zp, rfl, rfl⟩, rfl⟩

theorem adcZp (zp : Byte) : Statement (.adcZp zp) := ⟨.byte .adcZp, rfl, ⟨zp, rfl, rfl⟩, rfl⟩

theorem adcImm (imm : Byte) : Statement (.adcImm imm) := ⟨.byte .adcImm, rfl, ⟨imm, rfl, rfl⟩, rfl⟩

theorem adcAbs (addr : Addr) : Statement (.adcAbs addr) := ⟨.word .adcAbs, rfl, ⟨addr, rfl, rfl⟩, rfl⟩

theorem adcIndy (zp : Byte) : Statement (.adcIndy zp) := ⟨.byte .adcIndy, rfl, ⟨zp, rfl, rfl⟩, rfl⟩

theorem adcZpx (zp : Byte) : Statement (.adcZpx zp) := ⟨.byte .adcZpx, rfl, ⟨zp, rfl, rfl⟩, rfl⟩

theorem adcAbsy (addr : Addr) : Statement (.adcAbsy addr) := ⟨.word .adcAbsy, rfl, ⟨addr, rfl, rfl⟩, rfl⟩

theorem adcAbsx (addr : Addr) : Statement (.adcAbsx addr) := ⟨.word .adcAbsx, rfl, ⟨addr, rfl, rfl⟩, rfl⟩

theorem andIndx (zp : Byte) : Statement (.andIndx zp) := ⟨.byte .andIndx, rfl, ⟨zp, rfl, rfl⟩, rfl⟩

theorem andZp (zp : Byte) : Statement (.andZp zp) := ⟨.byte .andZp, rfl, ⟨zp, rfl, rfl⟩, rfl⟩

theorem andImm (imm : Byte) : Statement (.andImm imm) := ⟨.byte .andImm, rfl, ⟨imm, rfl, rfl⟩, rfl⟩

theorem andAbs (addr : Addr) : Statement (.andAbs addr) := ⟨.word .andAbs, rfl, ⟨addr, rfl, rfl⟩, rfl⟩

theorem andIndy (zp : Byte) : Statement (.andIndy zp) := ⟨.byte .andIndy, rfl, ⟨zp, rfl, rfl⟩, rfl⟩

theorem andZpx (zp : Byte) : Statement (.andZpx zp) := ⟨.byte .andZpx, rfl, ⟨zp, rfl, rfl⟩, rfl⟩

theorem andAbsy (addr : Addr) : Statement (.andAbsy addr) := ⟨.word .andAbsy, rfl, ⟨addr, rfl, rfl⟩, rfl⟩

theorem andAbsx (addr : Addr) : Statement (.andAbsx addr) := ⟨.word .andAbsx, rfl, ⟨addr, rfl, rfl⟩, rfl⟩

theorem aslZp (zp : Byte) : Statement (.aslZp zp) := ⟨.byte .aslZp, rfl, ⟨zp, rfl, rfl⟩, rfl⟩

theorem aslAcc : Statement .aslAcc := ⟨.alone .aslAcc, rfl, ⟨rfl, rfl⟩, rfl⟩

theorem aslAbs (addr : Addr) : Statement (.aslAbs addr) := ⟨.word .aslAbs, rfl, ⟨addr, rfl, rfl⟩, rfl⟩

theorem aslZpx (zp : Byte) : Statement (.aslZpx zp) := ⟨.byte .aslZpx, rfl, ⟨zp, rfl, rfl⟩, rfl⟩

theorem aslAbsx (addr : Addr) : Statement (.aslAbsx addr) := ⟨.word .aslAbsx, rfl, ⟨addr, rfl, rfl⟩, rfl⟩

theorem bcc (disp : Byte) : Statement (.bcc disp) := ⟨.byte .bcc, rfl, ⟨disp, rfl, rfl⟩, rfl⟩

theorem bcs (disp : Byte) : Statement (.bcs disp) := ⟨.byte .bcs, rfl, ⟨disp, rfl, rfl⟩, rfl⟩

theorem beq (disp : Byte) : Statement (.beq disp) := ⟨.byte .beq, rfl, ⟨disp, rfl, rfl⟩, rfl⟩

theorem bitZp (zp : Byte) : Statement (.bitZp zp) := ⟨.byte .bitZp, rfl, ⟨zp, rfl, rfl⟩, rfl⟩

theorem bitAbs (addr : Addr) : Statement (.bitAbs addr) := ⟨.word .bitAbs, rfl, ⟨addr, rfl, rfl⟩, rfl⟩

theorem bmi (disp : Byte) : Statement (.bmi disp) := ⟨.byte .bmi, rfl, ⟨disp, rfl, rfl⟩, rfl⟩

theorem bne (disp : Byte) : Statement (.bne disp) := ⟨.byte .bne, rfl, ⟨disp, rfl, rfl⟩, rfl⟩

theorem bpl (disp : Byte) : Statement (.bpl disp) := ⟨.byte .bpl, rfl, ⟨disp, rfl, rfl⟩, rfl⟩

theorem brk : Statement .brk := ⟨.alone .brk, rfl, ⟨rfl, rfl⟩, rfl⟩

theorem bvc (disp : Byte) : Statement (.bvc disp) := ⟨.byte .bvc, rfl, ⟨disp, rfl, rfl⟩, rfl⟩

theorem bvs (disp : Byte) : Statement (.bvs disp) := ⟨.byte .bvs, rfl, ⟨disp, rfl, rfl⟩, rfl⟩

theorem clc : Statement .clc := ⟨.alone .clc, rfl, ⟨rfl, rfl⟩, rfl⟩

theorem cld : Statement .cld := ⟨.alone .cld, rfl, ⟨rfl, rfl⟩, rfl⟩

theorem cli : Statement .cli := ⟨.alone .cli, rfl, ⟨rfl, rfl⟩, rfl⟩

theorem clv : Statement .clv := ⟨.alone .clv, rfl, ⟨rfl, rfl⟩, rfl⟩

theorem cmpIndx (zp : Byte) : Statement (.cmpIndx zp) := ⟨.byte .cmpIndx, rfl, ⟨zp, rfl, rfl⟩, rfl⟩

theorem cmpZp (zp : Byte) : Statement (.cmpZp zp) := ⟨.byte .cmpZp, rfl, ⟨zp, rfl, rfl⟩, rfl⟩

theorem cmpImm (imm : Byte) : Statement (.cmpImm imm) := ⟨.byte .cmpImm, rfl, ⟨imm, rfl, rfl⟩, rfl⟩

theorem cmpAbs (addr : Addr) : Statement (.cmpAbs addr) := ⟨.word .cmpAbs, rfl, ⟨addr, rfl, rfl⟩, rfl⟩

theorem cmpIndy (zp : Byte) : Statement (.cmpIndy zp) := ⟨.byte .cmpIndy, rfl, ⟨zp, rfl, rfl⟩, rfl⟩

theorem cmpZpx (zp : Byte) : Statement (.cmpZpx zp) := ⟨.byte .cmpZpx, rfl, ⟨zp, rfl, rfl⟩, rfl⟩

theorem cmpAbsy (addr : Addr) : Statement (.cmpAbsy addr) := ⟨.word .cmpAbsy, rfl, ⟨addr, rfl, rfl⟩, rfl⟩

theorem cmpAbsx (addr : Addr) : Statement (.cmpAbsx addr) := ⟨.word .cmpAbsx, rfl, ⟨addr, rfl, rfl⟩, rfl⟩

theorem cpxImm (imm : Byte) : Statement (.cpxImm imm) := ⟨.byte .cpxImm, rfl, ⟨imm, rfl, rfl⟩, rfl⟩

theorem cpxZp (zp : Byte) : Statement (.cpxZp zp) := ⟨.byte .cpxZp, rfl, ⟨zp, rfl, rfl⟩, rfl⟩

theorem cpxAbs (addr : Addr) : Statement (.cpxAbs addr) := ⟨.word .cpxAbs, rfl, ⟨addr, rfl, rfl⟩, rfl⟩

theorem cpyImm (imm : Byte) : Statement (.cpyImm imm) := ⟨.byte .cpyImm, rfl, ⟨imm, rfl, rfl⟩, rfl⟩

theorem cpyZp (zp : Byte) : Statement (.cpyZp zp) := ⟨.byte .cpyZp, rfl, ⟨zp, rfl, rfl⟩, rfl⟩

theorem cpyAbs (addr : Addr) : Statement (.cpyAbs addr) := ⟨.word .cpyAbs, rfl, ⟨addr, rfl, rfl⟩, rfl⟩

theorem decZp (zp : Byte) : Statement (.decZp zp) := ⟨.byte .decZp, rfl, ⟨zp, rfl, rfl⟩, rfl⟩

theorem decAbs (addr : Addr) : Statement (.decAbs addr) := ⟨.word .decAbs, rfl, ⟨addr, rfl, rfl⟩, rfl⟩

theorem decZpx (zp : Byte) : Statement (.decZpx zp) := ⟨.byte .decZpx, rfl, ⟨zp, rfl, rfl⟩, rfl⟩

theorem decAbsx (addr : Addr) : Statement (.decAbsx addr) := ⟨.word .decAbsx, rfl, ⟨addr, rfl, rfl⟩, rfl⟩

theorem dex : Statement .dex := ⟨.alone .dex, rfl, ⟨rfl, rfl⟩, rfl⟩

theorem dey : Statement .dey := ⟨.alone .dey, rfl, ⟨rfl, rfl⟩, rfl⟩

theorem eorIndx (zp : Byte) : Statement (.eorIndx zp) := ⟨.byte .eorIndx, rfl, ⟨zp, rfl, rfl⟩, rfl⟩

theorem eorZp (zp : Byte) : Statement (.eorZp zp) := ⟨.byte .eorZp, rfl, ⟨zp, rfl, rfl⟩, rfl⟩

theorem eorImm (imm : Byte) : Statement (.eorImm imm) := ⟨.byte .eorImm, rfl, ⟨imm, rfl, rfl⟩, rfl⟩

theorem eorAbs (addr : Addr) : Statement (.eorAbs addr) := ⟨.word .eorAbs, rfl, ⟨addr, rfl, rfl⟩, rfl⟩

theorem eorIndy (zp : Byte) : Statement (.eorIndy zp) := ⟨.byte .eorIndy, rfl, ⟨zp, rfl, rfl⟩, rfl⟩

theorem eorZpx (zp : Byte) : Statement (.eorZpx zp) := ⟨.byte .eorZpx, rfl, ⟨zp, rfl, rfl⟩, rfl⟩

theorem eorAbsy (addr : Addr) : Statement (.eorAbsy addr) := ⟨.word .eorAbsy, rfl, ⟨addr, rfl, rfl⟩, rfl⟩

theorem eorAbsx (addr : Addr) : Statement (.eorAbsx addr) := ⟨.word .eorAbsx, rfl, ⟨addr, rfl, rfl⟩, rfl⟩

theorem incZp (zp : Byte) : Statement (.incZp zp) := ⟨.byte .incZp, rfl, ⟨zp, rfl, rfl⟩, rfl⟩

theorem incAbs (addr : Addr) : Statement (.incAbs addr) := ⟨.word .incAbs, rfl, ⟨addr, rfl, rfl⟩, rfl⟩

theorem incZpx (zp : Byte) : Statement (.incZpx zp) := ⟨.byte .incZpx, rfl, ⟨zp, rfl, rfl⟩, rfl⟩

theorem incAbsx (addr : Addr) : Statement (.incAbsx addr) := ⟨.word .incAbsx, rfl, ⟨addr, rfl, rfl⟩, rfl⟩

theorem inx : Statement .inx := ⟨.alone .inx, rfl, ⟨rfl, rfl⟩, rfl⟩

theorem iny : Statement .iny := ⟨.alone .iny, rfl, ⟨rfl, rfl⟩, rfl⟩

theorem jmpAbs (addr : Addr) : Statement (.jmpAbs addr) := ⟨.word .jmpAbs, rfl, ⟨addr, rfl, rfl⟩, rfl⟩

theorem jmpInd (addr : Addr) : Statement (.jmpInd addr) := ⟨.word .jmpInd, rfl, ⟨addr, rfl, rfl⟩, rfl⟩

theorem jsr (addr : Addr) : Statement (.jsr addr) := ⟨.word .jsr, rfl, ⟨addr, rfl, rfl⟩, rfl⟩

theorem ldaIndx (zp : Byte) : Statement (.ldaIndx zp) := ⟨.byte .ldaIndx, rfl, ⟨zp, rfl, rfl⟩, rfl⟩

theorem ldaZp (zp : Byte) : Statement (.ldaZp zp) := ⟨.byte .ldaZp, rfl, ⟨zp, rfl, rfl⟩, rfl⟩

theorem ldaImm (imm : Byte) : Statement (.ldaImm imm) := ⟨.byte .ldaImm, rfl, ⟨imm, rfl, rfl⟩, rfl⟩

theorem ldaAbs (addr : Addr) : Statement (.ldaAbs addr) := ⟨.word .ldaAbs, rfl, ⟨addr, rfl, rfl⟩, rfl⟩

theorem ldaIndy (zp : Byte) : Statement (.ldaIndy zp) := ⟨.byte .ldaIndy, rfl, ⟨zp, rfl, rfl⟩, rfl⟩

theorem ldaZpx (zp : Byte) : Statement (.ldaZpx zp) := ⟨.byte .ldaZpx, rfl, ⟨zp, rfl, rfl⟩, rfl⟩

theorem ldaAbsy (addr : Addr) : Statement (.ldaAbsy addr) := ⟨.word .ldaAbsy, rfl, ⟨addr, rfl, rfl⟩, rfl⟩

theorem ldaAbsx (addr : Addr) : Statement (.ldaAbsx addr) := ⟨.word .ldaAbsx, rfl, ⟨addr, rfl, rfl⟩, rfl⟩

theorem ldxImm (imm : Byte) : Statement (.ldxImm imm) := ⟨.byte .ldxImm, rfl, ⟨imm, rfl, rfl⟩, rfl⟩

theorem ldxZp (zp : Byte) : Statement (.ldxZp zp) := ⟨.byte .ldxZp, rfl, ⟨zp, rfl, rfl⟩, rfl⟩

theorem ldxAbs (addr : Addr) : Statement (.ldxAbs addr) := ⟨.word .ldxAbs, rfl, ⟨addr, rfl, rfl⟩, rfl⟩

theorem ldxZpy (zp : Byte) : Statement (.ldxZpy zp) := ⟨.byte .ldxZpy, rfl, ⟨zp, rfl, rfl⟩, rfl⟩

theorem ldxAbsy (addr : Addr) : Statement (.ldxAbsy addr) := ⟨.word .ldxAbsy, rfl, ⟨addr, rfl, rfl⟩, rfl⟩

theorem ldyImm (imm : Byte) : Statement (.ldyImm imm) := ⟨.byte .ldyImm, rfl, ⟨imm, rfl, rfl⟩, rfl⟩

theorem ldyZp (zp : Byte) : Statement (.ldyZp zp) := ⟨.byte .ldyZp, rfl, ⟨zp, rfl, rfl⟩, rfl⟩

theorem ldyAbs (addr : Addr) : Statement (.ldyAbs addr) := ⟨.word .ldyAbs, rfl, ⟨addr, rfl, rfl⟩, rfl⟩

theorem ldyZpx (zp : Byte) : Statement (.ldyZpx zp) := ⟨.byte .ldyZpx, rfl, ⟨zp, rfl, rfl⟩, rfl⟩

theorem ldyAbsx (addr : Addr) : Statement (.ldyAbsx addr) := ⟨.word .ldyAbsx, rfl, ⟨addr, rfl, rfl⟩, rfl⟩

theorem lsrZp (zp : Byte) : Statement (.lsrZp zp) := ⟨.byte .lsrZp, rfl, ⟨zp, rfl, rfl⟩, rfl⟩

theorem lsrAcc : Statement .lsrAcc := ⟨.alone .lsrAcc, rfl, ⟨rfl, rfl⟩, rfl⟩

theorem lsrAbs (addr : Addr) : Statement (.lsrAbs addr) := ⟨.word .lsrAbs, rfl, ⟨addr, rfl, rfl⟩, rfl⟩

theorem lsrZpx (zp : Byte) : Statement (.lsrZpx zp) := ⟨.byte .lsrZpx, rfl, ⟨zp, rfl, rfl⟩, rfl⟩

theorem lsrAbsx (addr : Addr) : Statement (.lsrAbsx addr) := ⟨.word .lsrAbsx, rfl, ⟨addr, rfl, rfl⟩, rfl⟩

theorem nop : Statement .nop := ⟨.alone .nop, rfl, ⟨rfl, rfl⟩, rfl⟩

theorem oraIndx (zp : Byte) : Statement (.oraIndx zp) := ⟨.byte .oraIndx, rfl, ⟨zp, rfl, rfl⟩, rfl⟩

theorem oraZp (zp : Byte) : Statement (.oraZp zp) := ⟨.byte .oraZp, rfl, ⟨zp, rfl, rfl⟩, rfl⟩

theorem oraImm (imm : Byte) : Statement (.oraImm imm) := ⟨.byte .oraImm, rfl, ⟨imm, rfl, rfl⟩, rfl⟩

theorem oraAbs (addr : Addr) : Statement (.oraAbs addr) := ⟨.word .oraAbs, rfl, ⟨addr, rfl, rfl⟩, rfl⟩

theorem oraIndy (zp : Byte) : Statement (.oraIndy zp) := ⟨.byte .oraIndy, rfl, ⟨zp, rfl, rfl⟩, rfl⟩

theorem oraZpx (zp : Byte) : Statement (.oraZpx zp) := ⟨.byte .oraZpx, rfl, ⟨zp, rfl, rfl⟩, rfl⟩

theorem oraAbsy (addr : Addr) : Statement (.oraAbsy addr) := ⟨.word .oraAbsy, rfl, ⟨addr, rfl, rfl⟩, rfl⟩

theorem oraAbsx (addr : Addr) : Statement (.oraAbsx addr) := ⟨.word .oraAbsx, rfl, ⟨addr, rfl, rfl⟩, rfl⟩

theorem pha : Statement .pha := ⟨.alone .pha, rfl, ⟨rfl, rfl⟩, rfl⟩

theorem php : Statement .php := ⟨.alone .php, rfl, ⟨rfl, rfl⟩, rfl⟩

theorem pla : Statement .pla := ⟨.alone .pla, rfl, ⟨rfl, rfl⟩, rfl⟩

theorem plp : Statement .plp := ⟨.alone .plp, rfl, ⟨rfl, rfl⟩, rfl⟩

theorem rolZp (zp : Byte) : Statement (.rolZp zp) := ⟨.byte .rolZp, rfl, ⟨zp, rfl, rfl⟩, rfl⟩

theorem rolAcc : Statement .rolAcc := ⟨.alone .rolAcc, rfl, ⟨rfl, rfl⟩, rfl⟩

theorem rolAbs (addr : Addr) : Statement (.rolAbs addr) := ⟨.word .rolAbs, rfl, ⟨addr, rfl, rfl⟩, rfl⟩

theorem rolZpx (zp : Byte) : Statement (.rolZpx zp) := ⟨.byte .rolZpx, rfl, ⟨zp, rfl, rfl⟩, rfl⟩

theorem rolAbsx (addr : Addr) : Statement (.rolAbsx addr) := ⟨.word .rolAbsx, rfl, ⟨addr, rfl, rfl⟩, rfl⟩

theorem rorZp (zp : Byte) : Statement (.rorZp zp) := ⟨.byte .rorZp, rfl, ⟨zp, rfl, rfl⟩, rfl⟩

theorem rorAcc : Statement .rorAcc := ⟨.alone .rorAcc, rfl, ⟨rfl, rfl⟩, rfl⟩

theorem rorAbs (addr : Addr) : Statement (.rorAbs addr) := ⟨.word .rorAbs, rfl, ⟨addr, rfl, rfl⟩, rfl⟩

theorem rorZpx (zp : Byte) : Statement (.rorZpx zp) := ⟨.byte .rorZpx, rfl, ⟨zp, rfl, rfl⟩, rfl⟩

theorem rorAbsx (addr : Addr) : Statement (.rorAbsx addr) := ⟨.word .rorAbsx, rfl, ⟨addr, rfl, rfl⟩, rfl⟩

theorem rti : Statement .rti := ⟨.alone .rti, rfl, ⟨rfl, rfl⟩, rfl⟩

theorem rts : Statement .rts := ⟨.alone .rts, rfl, ⟨rfl, rfl⟩, rfl⟩

theorem sbcIndx (zp : Byte) : Statement (.sbcIndx zp) := ⟨.byte .sbcIndx, rfl, ⟨zp, rfl, rfl⟩, rfl⟩

theorem sbcZp (zp : Byte) : Statement (.sbcZp zp) := ⟨.byte .sbcZp, rfl, ⟨zp, rfl, rfl⟩, rfl⟩

theorem sbcImm (imm : Byte) : Statement (.sbcImm imm) := ⟨.byte .sbcImm, rfl, ⟨imm, rfl, rfl⟩, rfl⟩

theorem sbcAbs (addr : Addr) : Statement (.sbcAbs addr) := ⟨.word .sbcAbs, rfl, ⟨addr, rfl, rfl⟩, rfl⟩

theorem sbcIndy (zp : Byte) : Statement (.sbcIndy zp) := ⟨.byte .sbcIndy, rfl, ⟨zp, rfl, rfl⟩, rfl⟩

theorem sbcZpx (zp : Byte) : Statement (.sbcZpx zp) := ⟨.byte .sbcZpx, rfl, ⟨zp, rfl, rfl⟩, rfl⟩

theorem sbcAbsy (addr : Addr) : Statement (.sbcAbsy addr) := ⟨.word .sbcAbsy, rfl, ⟨addr, rfl, rfl⟩, rfl⟩

theorem sbcAbsx (addr : Addr) : Statement (.sbcAbsx addr) := ⟨.word .sbcAbsx, rfl, ⟨addr, rfl, rfl⟩, rfl⟩

theorem sec : Statement .sec := ⟨.alone .sec, rfl, ⟨rfl, rfl⟩, rfl⟩

theorem sed : Statement .sed := ⟨.alone .sed, rfl, ⟨rfl, rfl⟩, rfl⟩

theorem sei : Statement .sei := ⟨.alone .sei, rfl, ⟨rfl, rfl⟩, rfl⟩

theorem staIndx (zp : Byte) : Statement (.staIndx zp) := ⟨.byte .staIndx, rfl, ⟨zp, rfl, rfl⟩, rfl⟩

theorem staZp (zp : Byte) : Statement (.staZp zp) := ⟨.byte .staZp, rfl, ⟨zp, rfl, rfl⟩, rfl⟩

theorem staAbs (addr : Addr) : Statement (.staAbs addr) := ⟨.word .staAbs, rfl, ⟨addr, rfl, rfl⟩, rfl⟩

theorem staIndy (zp : Byte) : Statement (.staIndy zp) := ⟨.byte .staIndy, rfl, ⟨zp, rfl, rfl⟩, rfl⟩

theorem staZpx (zp : Byte) : Statement (.staZpx zp) := ⟨.byte .staZpx, rfl, ⟨zp, rfl, rfl⟩, rfl⟩

theorem staAbsy (addr : Addr) : Statement (.staAbsy addr) := ⟨.word .staAbsy, rfl, ⟨addr, rfl, rfl⟩, rfl⟩

theorem staAbsx (addr : Addr) : Statement (.staAbsx addr) := ⟨.word .staAbsx, rfl, ⟨addr, rfl, rfl⟩, rfl⟩

theorem stxZp (zp : Byte) : Statement (.stxZp zp) := ⟨.byte .stxZp, rfl, ⟨zp, rfl, rfl⟩, rfl⟩

theorem stxAbs (addr : Addr) : Statement (.stxAbs addr) := ⟨.word .stxAbs, rfl, ⟨addr, rfl, rfl⟩, rfl⟩

theorem stxZpy (zp : Byte) : Statement (.stxZpy zp) := ⟨.byte .stxZpy, rfl, ⟨zp, rfl, rfl⟩, rfl⟩

theorem styZp (zp : Byte) : Statement (.styZp zp) := ⟨.byte .styZp, rfl, ⟨zp, rfl, rfl⟩, rfl⟩

theorem styAbs (addr : Addr) : Statement (.styAbs addr) := ⟨.word .styAbs, rfl, ⟨addr, rfl, rfl⟩, rfl⟩

theorem styZpx (zp : Byte) : Statement (.styZpx zp) := ⟨.byte .styZpx, rfl, ⟨zp, rfl, rfl⟩, rfl⟩

theorem tax : Statement .tax := ⟨.alone .tax, rfl, ⟨rfl, rfl⟩, rfl⟩

theorem tay : Statement .tay := ⟨.alone .tay, rfl, ⟨rfl, rfl⟩, rfl⟩

theorem tsx : Statement .tsx := ⟨.alone .tsx, rfl, ⟨rfl, rfl⟩, rfl⟩

theorem txa : Statement .txa := ⟨.alone .txa, rfl, ⟨rfl, rfl⟩, rfl⟩

theorem txs : Statement .txs := ⟨.alone .txs, rfl, ⟨rfl, rfl⟩, rfl⟩

theorem tya : Statement .tya := ⟨.alone .tya, rfl, ⟨rfl, rfl⟩, rfl⟩

end Sys2Proof.Laws.Encoding
end

