-- ==== Sys2Proof/Laws/Stack.lean ====
section
/-! SUPPORT. What pushing and pulling two and three bytes can do, and what entering an interrupt can do. -/

namespace Sys2Proof.Machine

@[simp] theorem isRam_push (b : Byte) (s : State) (a : Addr) : (push b s).isRam a = s.isRam a :=
  isRam_congr (by simp) (push_bases b s) a

@[simp] theorem isMemory_push (b : Byte) (s : State) (a : Addr) : (push b s).isMemory a = s.isMemory a :=
  isMemory_congr (by simp) (push_bases b s) a

@[simp] theorem isMemory_pull (s : State) (a : Addr) : (pull s).2.isMemory a = s.isMemory a :=
  isMemory_congr (by simp) (pull_bases s) a

theorem sp_sub_two (x : Byte) : x - 1 - 1 = x - 2 := by bv_omega

theorem sp_add_two (x : Byte) : x + 1 + 1 = x + 2 := by bv_omega

/-- Pushing an address writes two bytes and moves the stack pointer by two; nothing else but the lines and devices
can change. -/
theorem pushAddr_state (a : Addr) (s : State) :
    pushAddr a s = { s with sp := s.sp - 2, mem := (pushAddr a s).mem, io := (pushAddr a s).io } := by
  simp only [pushAddr]
  rw [push_state, push_state]
  simp only [sp_sub_two]

/-- Pulling an address moves the stack pointer by two; nothing else but the lines and devices can change. -/
theorem pullAddr_state (s : State) : (pullAddr s).2 = { s with sp := s.sp + 2, io := (pullAddr s).2.io } := by
  simp only [pullAddr]
  rw [pull_state, pull_state]
  simp only [sp_add_two]

/-- Pushing an address changes no byte but the two it writes. -/
theorem pushAddr_read_other (a : Addr) (s : State) {c : Addr} (h0 : c ≠ stackAddr s.sp)
    (h1 : c ≠ stackAddr (s.sp - 1)) : (pushAddr a s).mem.read c = s.mem.read c := by
  rw [pushAddr, push_read_other, push_read_other]
  · exact h0
  · simpa only [push_sp] using h1

/-- Pushing an address in RAM: the high-order byte at the stack pointer, the low-order byte below it. -/
theorem pushAddr_ram (a : Addr) {s : State} (h0 : s.isRam (stackAddr s.sp) = true)
    (h1 : s.isRam (stackAddr (s.sp - 1)) = true) :
    pushAddr a s =
      { s with
        sp := s.sp - 2
        mem := (s.mem.write (stackAddr s.sp) (hiByte a)).write (stackAddr (s.sp - 1)) (loByte a) } := by
  rw [pushAddr, push_ram (s := push (hiByte a) s) (by simpa only [isRam_push, push_sp] using h1), push_ram h0]
  simp only [sp_sub_two]

/-- Pulling an address from RAM or ROM: the low-order byte comes first. -/
theorem pullAddr_memory {s : State} (h1 : s.isMemory (stackAddr (s.sp + 1)) = true)
    (h2 : s.isMemory (stackAddr (s.sp + 2)) = true) :
    pullAddr s =
      (mkAddr (s.mem.read (stackAddr (s.sp + 2))) (s.mem.read (stackAddr (s.sp + 1))), { s with sp := s.sp + 2 }) := by
  have h2' : State.isMemory (pull s).2 (stackAddr ((pull s).2.sp + 1)) = true := by
    rw [isMemory_pull, pull_sp, sp_add_two]
    exact h2
  simp only [pullAddr]
  rw [pull_memory h2', pull_memory h1]
  simp only [sp_add_two]

theorem pushAddr_bases (a : Addr) (s : State) :
    (pushAddr a s).io.vias.map Via.base = s.io.vias.map Via.base :=
  (push_bases _ _).trans (push_bases _ _)

theorem pullAddr_bases (s : State) : (pullAddr s).2.io.vias.map Via.base = s.io.vias.map Via.base :=
  (pull_bases _).trans (pull_bases _)

theorem pushStatus_bases (brk : Bool) (s : State) :
    (pushStatus brk s).io.vias.map Via.base = s.io.vias.map Via.base :=
  push_bases _ _

/-- A push of `P` writes one byte and moves the stack pointer; nothing else but the lines and devices can change. -/
theorem pushStatus_state (brk : Bool) (s : State) :
    pushStatus brk s =
      { s with sp := s.sp - 1, mem := (pushStatus brk s).mem, io := (pushStatus brk s).io } := by
  simp only [pushStatus]
  rw [push_state]

/-- A push of `P` in RAM. -/
theorem pushStatus_ram (brk : Bool) {s : State} (h : s.isRam (stackAddr s.sp) = true) :
    pushStatus brk s =
      { s with
        sp := s.sp - 1, mem := s.mem.write (stackAddr s.sp) (statusByte s brk), io := s.io.draw 2 } :=
  push_ram (s := { s with io := s.io.draw 2 }) h (statusByte s brk)

/-- A jump through a vector loads the program counter; nothing else but the lines and devices can change. -/
theorem jumpThrough_state (vector : Addr) (s : State) :
    jumpThrough vector s =
      { s with pc := (jumpThrough vector s).pc, io := (jumpThrough vector s).io } := by
  simp only [jumpThrough]
  rw [busReadPair_state]

/-- A jump through a vector in RAM or ROM. -/
theorem jumpThrough_memory {vector : Addr} {s : State} (h0 : s.isMemory vector = true)
    (h1 : s.isMemory (vector + 1) = true) :
    jumpThrough vector s = { s with pc := mkAddr (s.mem.read (vector + 1)) (s.mem.read vector) } := by
  simp only [jumpThrough]
  rw [busReadPair_memory h0 h1]

end Sys2Proof.Machine
end

