-- ==== Sys2Proof/Laws/State.lean ====
section
/-! SUPPORT. What each named update of a state, of the lines and devices, of the flags or of a VIA does to each field. -/

namespace Sys2Proof.Machine

@[simp] theorem advance_a (n : Nat) (s : State) :
    (s.advance n).a = s.a := rfl

@[simp] theorem advance_x (n : Nat) (s : State) :
    (s.advance n).x = s.x := rfl

@[simp] theorem advance_y (n : Nat) (s : State) :
    (s.advance n).y = s.y := rfl

@[simp] theorem advance_sp (n : Nat) (s : State) :
    (s.advance n).sp = s.sp := rfl

@[simp] theorem advance_pc (n : Nat) (s : State) :
    (s.advance n).pc = s.pc + BitVec.ofNat 16 n := rfl

@[simp] theorem advance_p (n : Nat) (s : State) :
    (s.advance n).p = s.p := rfl

@[simp] theorem advance_mem (n : Nat) (s : State) :
    (s.advance n).mem = s.mem := rfl

@[simp] theorem advance_io (n : Nat) (s : State) :
    (s.advance n).io = s.io := rfl

@[simp] theorem advance_cycles (n : Nat) (s : State) :
    (s.advance n).cycles = s.cycles := rfl

@[simp] theorem advance_cfg (n : Nat) (s : State) :
    (s.advance n).cfg = s.cfg := rfl

@[simp] theorem putAlu_a (r : AluResult) (s : State) :
    (putAlu r s).a = r.r := rfl

@[simp] theorem putAlu_x (r : AluResult) (s : State) :
    (putAlu r s).x = s.x := rfl

@[simp] theorem putAlu_y (r : AluResult) (s : State) :
    (putAlu r s).y = s.y := rfl

@[simp] theorem putAlu_sp (r : AluResult) (s : State) :
    (putAlu r s).sp = s.sp := rfl

@[simp] theorem putAlu_pc (r : AluResult) (s : State) :
    (putAlu r s).pc = s.pc := rfl

@[simp] theorem putAlu_p (r : AluResult) (s : State) :
    (putAlu r s).p = s.p.setAlu r := rfl

@[simp] theorem putAlu_mem (r : AluResult) (s : State) :
    (putAlu r s).mem = s.mem := rfl

@[simp] theorem putAlu_io (r : AluResult) (s : State) :
    (putAlu r s).io = s.io := rfl

@[simp] theorem putAlu_cycles (r : AluResult) (s : State) :
    (putAlu r s).cycles = s.cycles := rfl

@[simp] theorem putAlu_cfg (r : AluResult) (s : State) :
    (putAlu r s).cfg = s.cfg := rfl

@[simp] theorem setBreak_a (s : State) :
    (setBreak s).a = s.a := rfl

@[simp] theorem setBreak_x (s : State) :
    (setBreak s).x = s.x := rfl

@[simp] theorem setBreak_y (s : State) :
    (setBreak s).y = s.y := rfl

@[simp] theorem setBreak_sp (s : State) :
    (setBreak s).sp = s.sp := rfl

@[simp] theorem setBreak_pc (s : State) :
    (setBreak s).pc = s.pc := rfl

@[simp] theorem setBreak_p (s : State) :
    (setBreak s).p = s.p.setBreak s.cfg.bModel := rfl

@[simp] theorem setBreak_mem (s : State) :
    (setBreak s).mem = s.mem := rfl

@[simp] theorem setBreak_io (s : State) :
    (setBreak s).io = s.io := rfl

@[simp] theorem setBreak_cycles (s : State) :
    (setBreak s).cycles = s.cycles := rfl

@[simp] theorem setBreak_cfg (s : State) :
    (setBreak s).cfg = s.cfg := rfl

@[simp] theorem arrive_a (s : State) :
    (arrive s).a = s.a := rfl

@[simp] theorem arrive_x (s : State) :
    (arrive s).x = s.x := rfl

@[simp] theorem arrive_y (s : State) :
    (arrive s).y = s.y := rfl

@[simp] theorem arrive_sp (s : State) :
    (arrive s).sp = s.sp := rfl

@[simp] theorem arrive_pc (s : State) :
    (arrive s).pc = s.pc := rfl

@[simp] theorem arrive_p (s : State) :
    (arrive s).p = s.p := rfl

@[simp] theorem arrive_mem (s : State) :
    (arrive s).mem = s.mem := rfl

@[simp] theorem arrive_io (s : State) :
    (arrive s).io = s.io.move s.cfg := rfl

@[simp] theorem arrive_cycles (s : State) :
    (arrive s).cycles = s.cycles := rfl

@[simp] theorem arrive_cfg (s : State) :
    (arrive s).cfg = s.cfg := rfl

@[simp] theorem charge_a (n : Nat) (s : State) :
    (charge n s).a = s.a := by
  unfold charge; split <;> rfl

@[simp] theorem charge_x (n : Nat) (s : State) :
    (charge n s).x = s.x := by
  unfold charge; split <;> rfl

@[simp] theorem charge_y (n : Nat) (s : State) :
    (charge n s).y = s.y := by
  unfold charge; split <;> rfl

@[simp] theorem charge_sp (n : Nat) (s : State) :
    (charge n s).sp = s.sp := by
  unfold charge; split <;> rfl

@[simp] theorem charge_pc (n : Nat) (s : State) :
    (charge n s).pc = s.pc := by
  unfold charge; split <;> rfl

@[simp] theorem charge_p (n : Nat) (s : State) :
    (charge n s).p = s.p := by
  unfold charge; split <;> rfl

@[simp] theorem charge_mem (n : Nat) (s : State) :
    (charge n s).mem = s.mem := by
  unfold charge; split <;> rfl

@[simp] theorem charge_cycles (n : Nat) (s : State) :
    (charge n s).cycles = s.cycles + n := by
  unfold charge; split <;> rfl

@[simp] theorem charge_cfg (n : Nat) (s : State) :
    (charge n s).cfg = s.cfg := by
  unfold charge; split <;> rfl

@[simp] theorem settleClock_a (s : State) :
    (settleClock s).a = s.a := by
  unfold settleClock; split <;> rfl

@[simp] theorem settleClock_x (s : State) :
    (settleClock s).x = s.x := by
  unfold settleClock; split <;> rfl

@[simp] theorem settleClock_y (s : State) :
    (settleClock s).y = s.y := by
  unfold settleClock; split <;> rfl

@[simp] theorem settleClock_sp (s : State) :
    (settleClock s).sp = s.sp := by
  unfold settleClock; split <;> rfl

@[simp] theorem settleClock_pc (s : State) :
    (settleClock s).pc = s.pc := by
  unfold settleClock; split <;> rfl

@[simp] theorem settleClock_p (s : State) :
    (settleClock s).p = s.p := by
  unfold settleClock; split <;> rfl

@[simp] theorem settleClock_mem (s : State) :
    (settleClock s).mem = s.mem := by
  unfold settleClock; split <;> rfl

@[simp] theorem settleClock_cycles (s : State) :
    (settleClock s).cycles = s.cycles := by
  unfold settleClock; split <;> rfl

@[simp] theorem settleClock_cfg (s : State) :
    (settleClock s).cfg = s.cfg := by
  unfold settleClock; split <;> rfl

@[simp] theorem sequenceClock_a (s : State) :
    (sequenceClock s).a = s.a := by
  unfold sequenceClock; split <;> rfl

@[simp] theorem sequenceClock_x (s : State) :
    (sequenceClock s).x = s.x := by
  unfold sequenceClock; split <;> rfl

@[simp] theorem sequenceClock_y (s : State) :
    (sequenceClock s).y = s.y := by
  unfold sequenceClock; split <;> rfl

@[simp] theorem sequenceClock_sp (s : State) :
    (sequenceClock s).sp = s.sp := by
  unfold sequenceClock; split <;> rfl

@[simp] theorem sequenceClock_pc (s : State) :
    (sequenceClock s).pc = s.pc := by
  unfold sequenceClock; split <;> rfl

@[simp] theorem sequenceClock_p (s : State) :
    (sequenceClock s).p = s.p := by
  unfold sequenceClock; split <;> rfl

@[simp] theorem sequenceClock_mem (s : State) :
    (sequenceClock s).mem = s.mem := by
  unfold sequenceClock; split <;> rfl

@[simp] theorem sequenceClock_cycles (s : State) :
    (sequenceClock s).cycles = s.cycles := by
  unfold sequenceClock; split <;> rfl

@[simp] theorem sequenceClock_cfg (s : State) :
    (sequenceClock s).cfg = s.cfg := by
  unfold sequenceClock; split <;> rfl

@[simp] theorem drawDecimal_a (s : State) :
    (drawDecimal s).a = s.a := by
  unfold drawDecimal; split <;> rfl

@[simp] theorem drawDecimal_x (s : State) :
    (drawDecimal s).x = s.x := by
  unfold drawDecimal; split <;> rfl

@[simp] theorem drawDecimal_y (s : State) :
    (drawDecimal s).y = s.y := by
  unfold drawDecimal; split <;> rfl

@[simp] theorem drawDecimal_sp (s : State) :
    (drawDecimal s).sp = s.sp := by
  unfold drawDecimal; split <;> rfl

@[simp] theorem drawDecimal_pc (s : State) :
    (drawDecimal s).pc = s.pc := by
  unfold drawDecimal; split <;> rfl

@[simp] theorem drawDecimal_p (s : State) :
    (drawDecimal s).p = s.p := by
  unfold drawDecimal; split <;> rfl

@[simp] theorem drawDecimal_mem (s : State) :
    (drawDecimal s).mem = s.mem := by
  unfold drawDecimal; split <;> rfl

@[simp] theorem drawDecimal_cycles (s : State) :
    (drawDecimal s).cycles = s.cycles := by
  unfold drawDecimal; split <;> rfl

@[simp] theorem drawDecimal_cfg (s : State) :
    (drawDecimal s).cfg = s.cfg := by
  unfold drawDecimal; split <;> rfl

@[simp] theorem draw_irqLine (n : Nat) (io : Io) :
    (io.draw n).irqLine = io.irqLine := rfl

@[simp] theorem draw_nmiLine (n : Nat) (io : Io) :
    (io.draw n).nmiLine = io.nmiLine := rfl

@[simp] theorem draw_resLine (n : Nat) (io : Io) :
    (io.draw n).resLine = io.resLine := rfl

@[simp] theorem draw_nmiPending (n : Nat) (io : Io) :
    (io.draw n).nmiPending = io.nmiPending := rfl

@[simp] theorem draw_resetDue (n : Nat) (io : Io) :
    (io.draw n).resetDue = io.resetDue := rfl

@[simp] theorem draw_vias (n : Nat) (io : Io) :
    (io.draw n).vias = io.vias := rfl

@[simp] theorem draw_env (n : Nat) (io : Io) :
    (io.draw n).env = io.env := rfl

@[simp] theorem draw_draws (n : Nat) (io : Io) :
    (io.draw n).draws = io.draws + n := rfl

@[simp] theorem draw_owed (n : Nat) (io : Io) :
    (io.draw n).owed = io.owed := rfl

@[simp] theorem ioTick_irqLine (n : Nat) (io : Io) :
    (io.tick n).irqLine = io.irqLine := rfl

@[simp] theorem ioTick_nmiLine (n : Nat) (io : Io) :
    (io.tick n).nmiLine = io.nmiLine := rfl

@[simp] theorem ioTick_resLine (n : Nat) (io : Io) :
    (io.tick n).resLine = io.resLine := rfl

@[simp] theorem ioTick_nmiPending (n : Nat) (io : Io) :
    (io.tick n).nmiPending = io.nmiPending := rfl

@[simp] theorem ioTick_resetDue (n : Nat) (io : Io) :
    (io.tick n).resetDue = io.resetDue := rfl

@[simp] theorem ioTick_vias (n : Nat) (io : Io) :
    (io.tick n).vias = io.vias.map (Via.ticks n) := rfl

@[simp] theorem ioTick_env (n : Nat) (io : Io) :
    (io.tick n).env = io.env := rfl

@[simp] theorem ioTick_draws (n : Nat) (io : Io) :
    (io.tick n).draws = io.draws := rfl

@[simp] theorem ioTick_owed (n : Nat) (io : Io) :
    (io.tick n).owed = io.owed := rfl

@[simp] theorem setNZ_n (r : Byte) (f : Flags) :
    (f.setNZ r).n = r.getLsbD 7 := rfl

@[simp] theorem setNZ_v (r : Byte) (f : Flags) :
    (f.setNZ r).v = f.v := rfl

@[simp] theorem setNZ_b (r : Byte) (f : Flags) :
    (f.setNZ r).b = f.b := rfl

@[simp] theorem setNZ_d (r : Byte) (f : Flags) :
    (f.setNZ r).d = f.d := rfl

@[simp] theorem setNZ_i (r : Byte) (f : Flags) :
    (f.setNZ r).i = f.i := rfl

@[simp] theorem setNZ_z (r : Byte) (f : Flags) :
    (f.setNZ r).z = (r == 0) := rfl

@[simp] theorem setNZ_c (r : Byte) (f : Flags) :
    (f.setNZ r).c = f.c := rfl

@[simp] theorem setNZC_n (r : Byte) (k : Bool) (f : Flags) :
    (f.setNZC r k).n = r.getLsbD 7 := rfl

@[simp] theorem setNZC_v (r : Byte) (k : Bool) (f : Flags) :
    (f.setNZC r k).v = f.v := rfl

@[simp] theorem setNZC_b (r : Byte) (k : Bool) (f : Flags) :
    (f.setNZC r k).b = f.b := rfl

@[simp] theorem setNZC_d (r : Byte) (k : Bool) (f : Flags) :
    (f.setNZC r k).d = f.d := rfl

@[simp] theorem setNZC_i (r : Byte) (k : Bool) (f : Flags) :
    (f.setNZC r k).i = f.i := rfl

@[simp] theorem setNZC_z (r : Byte) (k : Bool) (f : Flags) :
    (f.setNZC r k).z = (r == 0) := rfl

@[simp] theorem setNZC_c (r : Byte) (k : Bool) (f : Flags) :
    (f.setNZC r k).c = k := rfl

@[simp] theorem setAlu_n (r : AluResult) (f : Flags) :
    (f.setAlu r).n = r.n := rfl

@[simp] theorem setAlu_v (r : AluResult) (f : Flags) :
    (f.setAlu r).v = r.v := rfl

@[simp] theorem setAlu_b (r : AluResult) (f : Flags) :
    (f.setAlu r).b = f.b := rfl

@[simp] theorem setAlu_d (r : AluResult) (f : Flags) :
    (f.setAlu r).d = f.d := rfl

@[simp] theorem setAlu_i (r : AluResult) (f : Flags) :
    (f.setAlu r).i = f.i := rfl

@[simp] theorem setAlu_z (r : AluResult) (f : Flags) :
    (f.setAlu r).z = r.z := rfl

@[simp] theorem setAlu_c (r : AluResult) (f : Flags) :
    (f.setAlu r).c = r.c := rfl

@[simp] theorem compare_n (r m : Byte) (f : Flags) :
    (f.compare r m).n = (r - m).getLsbD 7 := rfl

@[simp] theorem compare_v (r m : Byte) (f : Flags) :
    (f.compare r m).v = f.v := rfl

@[simp] theorem compare_b (r m : Byte) (f : Flags) :
    (f.compare r m).b = f.b := rfl

@[simp] theorem compare_d (r m : Byte) (f : Flags) :
    (f.compare r m).d = f.d := rfl

@[simp] theorem compare_i (r m : Byte) (f : Flags) :
    (f.compare r m).i = f.i := rfl

@[simp] theorem compare_z (r m : Byte) (f : Flags) :
    (f.compare r m).z = (r - m == 0) := rfl

@[simp] theorem compare_c (r m : Byte) (f : Flags) :
    (f.compare r m).c = !decide (r.toNat < m.toNat) := rfl

@[simp] theorem bitTestFlags_n (a m : Byte) (f : Flags) :
    (f.bitTest a m).n = m.getLsbD 7 := rfl

@[simp] theorem bitTestFlags_v (a m : Byte) (f : Flags) :
    (f.bitTest a m).v = m.getLsbD 6 := rfl

@[simp] theorem bitTestFlags_b (a m : Byte) (f : Flags) :
    (f.bitTest a m).b = f.b := rfl

@[simp] theorem bitTestFlags_d (a m : Byte) (f : Flags) :
    (f.bitTest a m).d = f.d := rfl

@[simp] theorem bitTestFlags_i (a m : Byte) (f : Flags) :
    (f.bitTest a m).i = f.i := rfl

@[simp] theorem bitTestFlags_z (a m : Byte) (f : Flags) :
    (f.bitTest a m).z = (a &&& m == 0) := rfl

@[simp] theorem bitTestFlags_c (a m : Byte) (f : Flags) :
    (f.bitTest a m).c = f.c := rfl

@[simp] theorem setBreakFlags_n (m : BModel) (f : Flags) :
    (f.setBreak m).n = f.n := by
  cases m <;> rfl

@[simp] theorem setBreakFlags_v (m : BModel) (f : Flags) :
    (f.setBreak m).v = f.v := by
  cases m <;> rfl

@[simp] theorem setBreakFlags_d (m : BModel) (f : Flags) :
    (f.setBreak m).d = f.d := by
  cases m <;> rfl

@[simp] theorem setBreakFlags_i (m : BModel) (f : Flags) :
    (f.setBreak m).i = f.i := by
  cases m <;> rfl

@[simp] theorem setBreakFlags_z (m : BModel) (f : Flags) :
    (f.setBreak m).z = f.z := by
  cases m <;> rfl

@[simp] theorem setBreakFlags_c (m : BModel) (f : Flags) :
    (f.setBreak m).c = f.c := by
  cases m <;> rfl

@[simp] theorem unpack_n (m : BModel) (b : Byte) (f : Flags) :
    (f.unpack m b).n = b.getLsbD 7 := rfl

@[simp] theorem unpack_v (m : BModel) (b : Byte) (f : Flags) :
    (f.unpack m b).v = b.getLsbD 6 := rfl

@[simp] theorem unpack_d (m : BModel) (b : Byte) (f : Flags) :
    (f.unpack m b).d = b.getLsbD 3 := rfl

@[simp] theorem unpack_i (m : BModel) (b : Byte) (f : Flags) :
    (f.unpack m b).i = b.getLsbD 2 := rfl

@[simp] theorem unpack_z (m : BModel) (b : Byte) (f : Flags) :
    (f.unpack m b).z = b.getLsbD 1 := rfl

@[simp] theorem unpack_c (m : BModel) (b : Byte) (f : Flags) :
    (f.unpack m b).c = b.getLsbD 0 := rfl

@[simp] theorem setFlag_base (k : Nat) (v : Via) :
    (v.setFlag k).base = v.base := rfl

@[simp] theorem setFlag_portA (k : Nat) (v : Via) :
    (v.setFlag k).portA = v.portA := rfl

@[simp] theorem setFlag_portB (k : Nat) (v : Via) :
    (v.setFlag k).portB = v.portB := rfl

@[simp] theorem setFlag_ctlA (k : Nat) (v : Via) :
    (v.setFlag k).ctlA = v.ctlA := rfl

@[simp] theorem setFlag_ctlB (k : Nat) (v : Via) :
    (v.setFlag k).ctlB = v.ctlB := rfl

@[simp] theorem setFlag_t1 (k : Nat) (v : Via) :
    (v.setFlag k).t1 = v.t1 := rfl

@[simp] theorem setFlag_t2 (k : Nat) (v : Via) :
    (v.setFlag k).t2 = v.t2 := rfl

@[simp] theorem setFlag_shifter (k : Nat) (v : Via) :
    (v.setFlag k).shifter = v.shifter := rfl

@[simp] theorem setFlag_acr (k : Nat) (v : Via) :
    (v.setFlag k).acr = v.acr := rfl

@[simp] theorem setFlag_pcr (k : Nat) (v : Via) :
    (v.setFlag k).pcr = v.pcr := rfl

@[simp] theorem setFlag_ifr (k : Nat) (v : Via) :
    (v.setFlag k).ifr = v.ifr ||| flagBit k := rfl

@[simp] theorem setFlag_ier (k : Nat) (v : Via) :
    (v.setFlag k).ier = v.ier := rfl

@[simp] theorem clearFlag_base (k : Nat) (v : Via) :
    (v.clearFlag k).base = v.base := rfl

@[simp] theorem clearFlag_portA (k : Nat) (v : Via) :
    (v.clearFlag k).portA = v.portA := rfl

@[simp] theorem clearFlag_portB (k : Nat) (v : Via) :
    (v.clearFlag k).portB = v.portB := rfl

@[simp] theorem clearFlag_ctlA (k : Nat) (v : Via) :
    (v.clearFlag k).ctlA = v.ctlA := rfl

@[simp] theorem clearFlag_ctlB (k : Nat) (v : Via) :
    (v.clearFlag k).ctlB = v.ctlB := rfl

@[simp] theorem clearFlag_t1 (k : Nat) (v : Via) :
    (v.clearFlag k).t1 = v.t1 := rfl

@[simp] theorem clearFlag_t2 (k : Nat) (v : Via) :
    (v.clearFlag k).t2 = v.t2 := rfl

@[simp] theorem clearFlag_shifter (k : Nat) (v : Via) :
    (v.clearFlag k).shifter = v.shifter := rfl

@[simp] theorem clearFlag_acr (k : Nat) (v : Via) :
    (v.clearFlag k).acr = v.acr := rfl

@[simp] theorem clearFlag_pcr (k : Nat) (v : Via) :
    (v.clearFlag k).pcr = v.pcr := rfl

@[simp] theorem clearFlag_ifr (k : Nat) (v : Via) :
    (v.clearFlag k).ifr = v.ifr &&& ~~~flagBit k := rfl

@[simp] theorem clearFlag_ier (k : Nat) (v : Via) :
    (v.clearFlag k).ier = v.ier := rfl

@[simp] theorem setPort_base (side : Side) (p : Port) (v : Via) :
    (v.setPort side p).base = v.base := by
  cases side <;> rfl

@[simp] theorem setPort_ctlA (side : Side) (p : Port) (v : Via) :
    (v.setPort side p).ctlA = v.ctlA := by
  cases side <;> rfl

@[simp] theorem setPort_ctlB (side : Side) (p : Port) (v : Via) :
    (v.setPort side p).ctlB = v.ctlB := by
  cases side <;> rfl

@[simp] theorem setPort_t1 (side : Side) (p : Port) (v : Via) :
    (v.setPort side p).t1 = v.t1 := by
  cases side <;> rfl

@[simp] theorem setPort_t2 (side : Side) (p : Port) (v : Via) :
    (v.setPort side p).t2 = v.t2 := by
  cases side <;> rfl

@[simp] theorem setPort_shifter (side : Side) (p : Port) (v : Via) :
    (v.setPort side p).shifter = v.shifter := by
  cases side <;> rfl

@[simp] theorem setPort_acr (side : Side) (p : Port) (v : Via) :
    (v.setPort side p).acr = v.acr := by
  cases side <;> rfl

@[simp] theorem setPort_pcr (side : Side) (p : Port) (v : Via) :
    (v.setPort side p).pcr = v.pcr := by
  cases side <;> rfl

@[simp] theorem setPort_ifr (side : Side) (p : Port) (v : Via) :
    (v.setPort side p).ifr = v.ifr := by
  cases side <;> rfl

@[simp] theorem setPort_ier (side : Side) (p : Port) (v : Via) :
    (v.setPort side p).ier = v.ier := by
  cases side <;> rfl

@[simp] theorem setCtl_base (side : Side) (c : Control) (v : Via) :
    (v.setCtl side c).base = v.base := by
  cases side <;> rfl

@[simp] theorem setCtl_portA (side : Side) (c : Control) (v : Via) :
    (v.setCtl side c).portA = v.portA := by
  cases side <;> rfl

@[simp] theorem setCtl_portB (side : Side) (c : Control) (v : Via) :
    (v.setCtl side c).portB = v.portB := by
  cases side <;> rfl

@[simp] theorem setCtl_t1 (side : Side) (c : Control) (v : Via) :
    (v.setCtl side c).t1 = v.t1 := by
  cases side <;> rfl

@[simp] theorem setCtl_t2 (side : Side) (c : Control) (v : Via) :
    (v.setCtl side c).t2 = v.t2 := by
  cases side <;> rfl

@[simp] theorem setCtl_shifter (side : Side) (c : Control) (v : Via) :
    (v.setCtl side c).shifter = v.shifter := by
  cases side <;> rfl

@[simp] theorem setCtl_acr (side : Side) (c : Control) (v : Via) :
    (v.setCtl side c).acr = v.acr := by
  cases side <;> rfl

@[simp] theorem setCtl_pcr (side : Side) (c : Control) (v : Via) :
    (v.setCtl side c).pcr = v.pcr := by
  cases side <;> rfl

@[simp] theorem setCtl_ifr (side : Side) (c : Control) (v : Via) :
    (v.setCtl side c).ifr = v.ifr := by
  cases side <;> rfl

@[simp] theorem setCtl_ier (side : Side) (c : Control) (v : Via) :
    (v.setCtl side c).ier = v.ier := by
  cases side <;> rfl

end Sys2Proof.Machine
end

