-- ==== Sys2Proof/Laws/Via.lean ====
section
/-! SUPPORT. What setting and resetting an interrupt flag of a VIA does to each flag, what a pin shows, and what a new mode
changes on CA2 and CB2. -/

namespace Sys2Proof.Machine

/-- One flag alone, bit by bit. -/
theorem flagBit_getLsbD (k j : Nat) : (flagBit k).getLsbD j = (decide (j < 7) && decide (k = j)) := by
  simp only [flagBit, BitVec.getLsbD_ofNat, Nat.testBit_two_pow]

@[simp] theorem flag_setFlag (k j : Nat) (v : Via) (hj : j < 7) :
    (v.setFlag k).flag j = (v.flag j || decide (k = j)) := by
  simp only [Via.setFlag, Via.flag, BitVec.getLsbD_or, flagBit_getLsbD, hj, decide_true, Bool.true_and]

@[simp] theorem flag_clearFlag (k j : Nat) (v : Via) (hj : j < 7) :
    (v.clearFlag k).flag j = (v.flag j && !decide (k = j)) := by
  simp only [Via.clearFlag, Via.flag, BitVec.getLsbD_and, BitVec.getLsbD_not, flagBit_getLsbD, hj, decide_true,
    Bool.true_and]

@[simp] theorem flag_setPort (side : Side) (p : Port) (j : Nat) (v : Via) : (v.setPort side p).flag j = v.flag j := by
  cases side <;> rfl

@[simp] theorem flag_setCtl (side : Side) (c : Control) (j : Nat) (v : Via) :
    (v.setCtl side c).flag j = v.flag j := by
  cases side <;> rfl

@[simp] theorem flag_startC2 (side : Side) (j : Nat) (v : Via) : (v.startC2 side).flag j = v.flag j := by
  unfold Via.startC2
  split
  · exact flag_setCtl ..
  · rfl

/-- The flags after an access of a port: C1's is reset, and C2's unless it is independent while PCR acts on it. -/
theorem flag_clearPortFlags (side : Side) (j : Nat) (v : Via) (hj : j < 7) :
    (v.clearPortFlags side).flag j =
      (v.flag j && !decide (c1Flag side = j) && (v.independent side || !decide (c2Flag side = j))) := by
  unfold Via.clearPortFlags
  simp only
  split
  · next h => simp [hj, h]
  · next h => simp [hj, h]

/-- Resetting the flags of a port changes nothing but flags. -/
theorem clearPortFlags_eq (side : Side) (v : Via) :
    v.clearPortFlags side = { v with ifr := (v.clearPortFlags side).ifr } := by
  unfold Via.clearPortFlags
  simp only
  split <;> rfl

/-- An access through register $F resets no more than flags. -/
theorem maybeClearPortA_eq (d : Nat) (v : Via) :
    v.maybeClearPortA d = { v with ifr := (v.maybeClearPortA d).ifr } := by
  unfold Via.maybeClearPortA
  simp only
  (repeat' split) <;> rfl

/-- The handshake and the pulse mode together. -/
theorem c2Starts (k : BitVec 4) : (c2Handshake k || c2Pulse k) = (k.getLsbD 3 && !k.getLsbD 2) := by
  have cases3 : ∀ x y z : Bool, (x && !y && !z || x && !y && z) = (x && !y) := by decide
  exact cases3 _ _ _

/-- The start of a handshake or a pulse changes no more than the level of C2 as an output, which goes low. -/
theorem startC2_eq (side : Side) (v : Via) :
    v.startC2 side = v.setCtl side { v.ctl side with
      c2Out := (v.ctl side).c2Out && !((v.bits side).getLsbD 3 && !(v.bits side).getLsbD 2 && v.pcrActive side) } := by
  unfold Via.startC2
  rw [← c2Starts]
  by_cases h : (v.pcrActive side && (c2Handshake (v.bits side) || c2Pulse (v.bits side))) = true
  · rw [if_pos h, Bool.and_comm (c2Handshake _ || c2Pulse _), h, Bool.not_true, Bool.and_false]
  · rw [if_neg h, Bool.and_comm (c2Handshake _ || c2Pulse _), (Bool.not_eq_true _).mp h, Bool.not_false, Bool.and_true]
    cases side <;> rfl

@[simp] theorem port_setPort (side : Side) (p : Port) (v : Via) : (v.setPort side p).port side = p := by
  cases side <;> rfl

@[simp] theorem ctl_setCtl (side : Side) (c : Control) (v : Via) : (v.setCtl side c).ctl side = c := by
  cases side <;> rfl

@[simp] theorem ctl_setPort (side t : Side) (p : Port) (v : Via) : (v.setPort side p).ctl t = v.ctl t := by
  cases side <;> rfl

@[simp] theorem port_setCtl (side t : Side) (c : Control) (v : Via) : (v.setCtl side c).port t = v.port t := by
  cases side <;> rfl

/-- One pin of a port: the outside wins, then an output line as it is driven, and an input line is high. -/
theorem pins_getLsbD (driven : Byte) (p : Port) (k : Nat) (hk : k < 8) :
    (p.pins driven).getLsbD k =
      if p.forced.getLsbD k then p.level.getLsbD k else if p.ddr.getLsbD k then driven.getLsbD k else true := by
  simp only [Port.pins, BitVec.getLsbD_or, BitVec.getLsbD_and, BitVec.getLsbD_not, hk]
  cases p.forced.getLsbD k <;> cases p.ddr.getLsbD k <;> simp

/-- One bit of a byte whose bit 7 may be replaced. -/
theorem replaceBit7_getLsbD (z : Byte) (x y : Bool) (k : Nat) (hk : k < 8) :
    (if x = true then z &&& 0x7F ||| (if y = true then 0x80 else 0x00) else z).getLsbD k =
      if (decide (k = 7) && x) = true then y else z.getLsbD k := by
  have low : ∀ k : Fin 8, (0x7F : Byte).getLsbD k = decide ((k : Nat) ≠ 7) := by decide
  have high : ∀ k : Fin 8, (0x80 : Byte).getLsbD k = decide ((k : Nat) = 7) := by decide
  have h7 : (0x7F : Byte).getLsbD k = decide (k ≠ 7) := low ⟨k, hk⟩
  have h8 : (0x80 : Byte).getLsbD k = decide (k = 7) := high ⟨k, hk⟩
  cases x
  · simp
  · rw [if_pos rfl, BitVec.getLsbD_or, BitVec.getLsbD_and, h7]
    cases y
    · rw [if_neg (by simp)]
      by_cases h : k = 7 <;> simp [h]
    · rw [if_pos rfl, h8]
      by_cases h : k = 7 <;> simp [h]

/-- What a VIA drives on a line of port B: ORB's bit, but on line 7 timer 1's level while ACR bit 7 is 1. -/
theorem driven_b_getLsbD (v : Via) (k : Nat) (hk : k < 8) :
    (v.driven .b).getLsbD k = if (decide (k = 7) && v.drivesPb7) = true then v.t1.pb7 else v.portB.out.getLsbD k :=
  replaceBit7_getLsbD v.portB.out v.drivesPb7 v.t1.pb7 k hk

/-- A new PCR setting changes no more than the level of C2 as an output. -/
theorem c2AfterPcr_eq (old new : BitVec 4) (d : Nat) (c : Control) :
    c2AfterPcr old new d c = { c with c2Out := (c2AfterPcr old new d c).c2Out } := by
  unfold c2AfterPcr
  split <;> rfl

/-- A new shift mode changes no more than the level of CB2 as an output. -/
theorem c2AfterShift_eq (m m' d : Nat) (c : Control) :
    c2AfterShift m m' d c = { c with c2Out := (c2AfterShift m m' d c).c2Out } := by
  unfold c2AfterShift
  split <;> rfl

theorem shiftMode_lt (acr : Byte) : shiftMode acr < 8 := Nat.mod_lt _ (by decide)

end Sys2Proof.Machine
end

