-- ==== Sys2Proof/Machine/Assembly.lean ====
section
/-! DEFINITION. The assembly language (R105 to R109): mnemonics, operand formats and the addressing modes they imply,
operand expressions, labels and the ORG directive, and how a source program becomes bytes at addresses. The machine
does not depend on it. -/

namespace Sys2Proof.Machine

/-- The three letters of a mnemonic (R105). -/
def mnemonic : Op → String
  | .adc => "ADC"
  | .and => "AND"
  | .asl => "ASL"
  | .bcc => "BCC"
  | .bcs => "BCS"
  | .beq => "BEQ"
  | .bit => "BIT"
  | .bmi => "BMI"
  | .bne => "BNE"
  | .bpl => "BPL"
  | .brk => "BRK"
  | .bvc => "BVC"
  | .bvs => "BVS"
  | .clc => "CLC"
  | .cld => "CLD"
  | .cli => "CLI"
  | .clv => "CLV"
  | .cmp => "CMP"
  | .cpx => "CPX"
  | .cpy => "CPY"
  | .dec => "DEC"
  | .dex => "DEX"
  | .dey => "DEY"
  | .eor => "EOR"
  | .inc => "INC"
  | .inx => "INX"
  | .iny => "INY"
  | .jmp => "JMP"
  | .jsr => "JSR"
  | .lda => "LDA"
  | .ldx => "LDX"
  | .ldy => "LDY"
  | .lsr => "LSR"
  | .nop => "NOP"
  | .ora => "ORA"
  | .pha => "PHA"
  | .php => "PHP"
  | .pla => "PLA"
  | .plp => "PLP"
  | .rol => "ROL"
  | .ror => "ROR"
  | .rti => "RTI"
  | .rts => "RTS"
  | .sbc => "SBC"
  | .sec => "SEC"
  | .sed => "SED"
  | .sei => "SEI"
  | .sta => "STA"
  | .stx => "STX"
  | .sty => "STY"
  | .tax => "TAX"
  | .tay => "TAY"
  | .tsx => "TSX"
  | .txa => "TXA"
  | .txs => "TXS"
  | .tya => "TYA"

/-- An operand expression (R107): a number by its base and digits, an ASCII character by its code, a symbol, or a
simple arithmetic expression. -/
inductive Expr where
  /-- A number: its base (2, 8, 10 or 16) and its digits, the most significant first. -/
  | number (base : Nat) (digits : List Nat)
  /-- An ASCII code character, by its code. -/
  | ascii (code : Nat)
  /-- A symbol. -/
  | symbol (name : String)
  /-- A sum. -/
  | add (l r : Expr)
  /-- A difference. -/
  | sub (l r : Expr)
  /-- A product. -/
  | mul (l r : Expr)
  /-- A quotient. -/
  | div (l r : Expr)
deriving DecidableEq, Repr

/-- The operand formats (R106). -/
inductive OperandText where
  /-- Nothing: implied. -/
  | none
  /-- `A`: accumulator. -/
  | acc
  /-- `#Operand`: immediate. -/
  | imm (e : Expr)
  /-- `Operand`: zero page, absolute or relative. -/
  | plain (e : Expr)
  /-- `Operand,X`: zero page or absolute, indexed by X. -/
  | plainX (e : Expr)
  /-- `Operand,Y`: zero page or absolute, indexed by Y. -/
  | plainY (e : Expr)
  /-- `(Operand,X)`: indexed indirect. -/
  | indX (e : Expr)
  /-- `(Operand),Y`: indirect indexed. -/
  | indY (e : Expr)
  /-- `(Operand)`: indirect. -/
  | ind (e : Expr)
deriving DecidableEq, Repr

/-- One line of a source program (R105, R108): a label, which is optional, and an instruction, or the ORG directive.
Comments say nothing to the machine. -/
inductive SourceLine where
  /-- `ORG`: the address at which the following code is assembled. -/
  | org (e : Expr)
  /-- A label if there is one, an operator and an operand. -/
  | code (label : Option String) (op : Op) (text : OperandText)
deriving DecidableEq, Repr

/-- The value of a string of digits, which are taken as they are given (log entry 41). -/
def digitsValue (base : Nat) (digits : List Nat) : Nat := digits.foldl (fun acc d => acc * base + d) 0

/-- The value of a symbol, if it is defined. DESIGN CHOICE (log entry 41): the source gives no label rules (N32); of
several definitions of one name the last one made counts, a label before a given symbol. -/
def symbolValue (symbols : List (String × Int)) (name : String) : Option Int :=
  (symbols.find? (fun p => p.1 == name)).map Prod.snd

/-- The expression names a symbol. -/
def Expr.hasSymbol : Expr → Bool
  | .number _ _ | .ascii _ => false
  | .symbol _ => true
  | .add l r | .sub l r | .mul l r | .div l r => l.hasSymbol || r.hasSymbol

/-- A quotient. DESIGN CHOICE (log entry 41): the source gives no expression grammar (N32); a quotient is rounded so that
the remainder is not negative, and a quotient by zero has no value. -/
def quotient (x y : Int) : Option Int := if y = 0 then none else some (x / y)

/-- The value of an expression, if its symbols are defined and no quotient in it is by zero. DESIGN CHOICE (log entry
41): the source gives no width of the arithmetic (N32); every value within an expression, that of its numbers, symbols
and operations alike, is a whole number without bound, so that ($FFFF + 1) / 2 is $8000, and only the value of the whole
operand has to fit. -/
def Expr.value (symbols : List (String × Int)) : Expr → Option Int
  | .number base digits => some (digitsValue base digits)
  | .ascii code => some code
  | .symbol name => symbolValue symbols name
  | .add l r => do return (← l.value symbols) + (← r.value symbols)
  | .sub l r => do return (← l.value symbols) - (← r.value symbols)
  | .mul l r => do return (← l.value symbols) * (← r.value symbols)
  | .div l r => do quotient (← l.value symbols) (← r.value symbols)

/-- A value fits the operand bytes of a mode, as a number with or without a sign. -/
def fitsMode (mode : Mode) (v : Int) : Bool :=
  match mode.length with
  | 2 => -128 ≤ v && v < 256
  | 3 => -32768 ≤ v && v < 65536
  | _ => true

/-- The instruction of a form with its operand at a value, of which the operand bytes take the low-order bits. -/
def formInstr (f : Form) (v : Int) : Instr :=
  match f with
  | .alone i => i
  | .byte mk => mk (BitVec.ofInt 8 v)
  | .word mk => mk (BitVec.ofInt 16 v)

/-- The instruction with a mnemonic and an addressing mode, if the opcode map has it (R101). -/
def findInstr (op : Op) (mode : Mode) (v : Int) : Option Instr :=
  (List.range 256).findSome? (fun k =>
    match opcodeForm (BitVec.ofNat 8 k) with
    | some f => if (formInstr f v).op = op ∧ (formInstr f v).mode = mode then some (formInstr f v) else none
    | none => none)

/-- The opcode map has the mnemonic in the mode (R101). -/
def hasMode (op : Op) (mode : Mode) : Bool := (findInstr op mode 0).isSome

/-- The expression of an operand. -/
def OperandText.expr : OperandText → Expr
  | .none | .acc => .number 10 [0]
  | .imm e | .plain e | .plainX e | .plainY e | .indX e | .indY e | .ind e => e

/-- The zero-page form when the instruction has one and the operand's value is known to be below $100, otherwise the
absolute form (R106, D20). DESIGN CHOICE (log entry 41): a negative value, and one not known at this line, takes the
absolute form. -/
def shortOrLong (op : Op) (v : Option Int) (short long : Mode) : Mode :=
  match v with
  | some n => if 0 ≤ n ∧ n < 256 ∧ hasMode op short = true then short else long
  | none => long

/-- The addressing mode an operand implies (R106), its value being known or not. -/
def OperandText.mode (op : Op) (v : Option Int) : OperandText → Mode
  | .none => .implied
  | .acc => .accumulator
  | .imm _ => .immediate
  | .plain _ => if hasMode op .relative then .relative else shortOrLong op v .zeroPage .absolute
  | .plainX _ => shortOrLong op v .zeroPageX .absoluteX
  | .plainY _ => shortOrLong op v .zeroPageY .absoluteY
  | .indX _ => .indexedIndirect
  | .indY _ => .indirectIndexed
  | .ind _ => .indirect

/-- An instruction placed by the first pass: its address, mnemonic, mode and operand. -/
structure Placed where
  /-- The address of its first byte. -/
  at_ : Int
  /-- Its mnemonic. -/
  op : Op
  /-- The addressing mode the first pass has chosen. -/
  mode : Mode
  /-- Its operand. -/
  expr : Expr
deriving DecidableEq, Repr

/-- The first pass: labels get their addresses, instructions their addresses and modes (R105, R109). DESIGN CHOICE (log
entry 41): a label may be defined twice, and addresses go on past $FFFF, where the machine wraps, as numbers of their
own; an ORG that names a symbol not yet defined has no value, and the whole program then assembles to nothing. -/
def firstPass (loc : Int) (symbols : List (String × Int)) :
    List SourceLine → Option (List (String × Int) × List Placed)
  | [] => some (symbols, [])
  | .org e :: rest => do firstPass (← e.value symbols) symbols rest
  | .code label op text :: rest => do
    let mode := text.mode op (text.expr.value symbols)
    let known :=
      match label with
      | some name => (name, loc) :: symbols
      | Option.none => symbols
    let r ← firstPass (loc + mode.length) known rest
    return (r.1, { at_ := loc, op := op, mode := mode, expr := text.expr } :: r.2)

/-- The displacement of a branch to an address: from the address of the next instruction, from -128 to 127 (R96). DESIGN
CHOICE (log entry 41): the difference is not taken modulo 65536, so that a branch to a label on the other side of
$FFFF/$0000, which the machine could make (D2), assembles to nothing. -/
def displacement (at_ target : Int) : Option Int :=
  let d := target - (at_ + 2)
  if -128 ≤ d ∧ d ≤ 127 then some d else none

/-- The second pass, for one instruction (R106). A branch's operand is a label, from which the displacement is
calculated, or the displacement byte itself. DESIGN CHOICE (log entry 41): an expression that names a symbol, such as
`LOOP1+1`, is an address like a label, one that names none is the displacement; a value that does not fit its operand
bytes assembles to nothing. -/
def Placed.instr (symbols : List (String × Int)) (p : Placed) : Option Instr := do
  let v ← p.expr.value symbols
  let operand ← if p.mode = .relative && p.expr.hasSymbol then displacement p.at_ v else some v
  if fitsMode p.mode operand then findInstr p.op p.mode operand else none

/-- A source program as instructions at addresses: the listing of R109. DESIGN CHOICE (log entry 41): code before any ORG
starts at address 0 (N32 gives none), and one line that assembles to nothing leaves no program. -/
def assemble (symbols : List (String × Int)) (lines : List SourceLine) : Option (List (Int × Instr)) := do
  let r ← firstPass 0 symbols lines
  r.2.mapM (fun p => do return (p.at_, ← p.instr r.1))

end Sys2Proof.Machine
end

