-- ==== Sys2Proof/Machine/Run.lean ====
section
/-! DEFINITION. Runs of many steps and their length in time: the two parameters of R8 that no rule of the machine depends
on, `END_OF_RUN` (D23) and `CLOCK_HZ`, as arguments. The machine itself never stops a run. -/

namespace Sys2Proof.Machine

/-- A run of at most `limit` steps that ends in the first state for which `endOfRun` (`END_OF_RUN`, R8, D23) holds, or
where a step has no next state. -/
def runUntil (endOfRun : State → Bool) : Nat → State → Outcome
  | 0, s => .next s
  | limit + 1, s =>
    if endOfRun s then .next s
    else
      match step s with
      | .next t => runUntil endOfRun limit t
      | stop => stop

/-- `END_OF_RUN`, D23's first example: the program counter has reached an address. -/
def pcReaches (a : Addr) (s : State) : Bool := s.pc == a

/-- `END_OF_RUN`, D23's second example: the instruction at the program counter jumps to itself, an absolute JMP or a
branch that is taken. -/
def jumpsToItself (s : State) : Bool :=
  match decode [s.mem.read s.pc, s.mem.read (s.pc + 1), s.mem.read (s.pc + 2)] with
  | .ok (.jmpAbs target, _) => target == s.pc
  | .ok (i, _) => branchTaken i s.p && i.operandBytes == [0xFE]
  | .error _ => false

/-- The time in seconds between two states of a run, the system clock running at `clockHz` (`CLOCK_HZ`, R8, R356): "The
delay period is the number of cycles times the system clock period." Entry and reset sequences add no cycles (log entry
27). -/
def delaySeconds (clockHz : ℕ+) (s t : State) : ℚ := ((t.cycles : ℚ) - s.cycles) * (1 / (clockHz : ℚ))

end Sys2Proof.Machine
end

