-- ==== Sys2Proof/Tests/Slice0.lean ====
section
/-! SUPPORT. Tests: what the platform checks refuse, the decoding of every operation code, the times of Table I, single
instructions and VIA accesses with the results the spec gives, the source's assembly listing, and for every statement
with hypotheses a state and operands that meet them. -/

namespace Sys2Proof.Tests

open Sys2Proof Sys2Proof.Machine

/-- All flags clear. -/
def clear : Flags := { n := false, v := false, b := false, d := false, i := false, z := false, c := false }

/-- RAM everywhere, all registers zero, all flags clear. -/
def start : State := { State.reset with p := clear, io := Io.atReset [] }

/-- The state after an instruction. -/
def run (i : Instr) (s : State) : State :=
  match exec i s with
  | .next t => t
  | _ => s

/-! ### Which platforms are well formed (R59, D18, D19) -/

theorem test_platform_of_reset : platformWellFormed State.reset.cfg (bases State.reset) = true := by decide

theorem test_instr_always_well_formed : (Instr.jmpInd 0xFFFF).wellFormed = true := rfl

theorem test_refuses_region_running_down :
    Region.wellFormed { first := 0x4000, last := 0x3FFF, kind := .rom } = false ∧
    regionsWellFormed [{ first := 0x4000, last := 0x3FFF, kind := .rom }] = false := by decide

theorem test_refuses_regions_that_meet :
    Region.disjoint { first := 0x4000, last := 0x4FFF, kind := .rom } { first := 0x4FFF, last := 0x5000, kind := .ram }
      = false ∧
    regionsWellFormed [{ first := 0x4000, last := 0x4FFF, kind := .rom },
      { first := 0x4FFF, last := 0x5000, kind := .ram }] = false := by decide

theorem test_refuses_rom_on_a_low_page :
    lowPagesRam [{ first := 0x01FF, last := 0x3FFF, kind := .rom }] = false ∧
    lowPagesRam [{ first := 0x0200, last := 0x3FFF, kind := .rom }] = true := by decide

theorem test_refuses_unreadable_vectors :
    vectorsReadable [{ first := 0xF000, last := 0xFFFA, kind := .unmapped }] = false ∧
    vectorsReadable [{ first := 0xF000, last := 0xFFFA, kind := .rom }] = true := by decide

theorem test_refuses_via_windows :
    windowsWellFormed [0x01FF] = false ∧ windowsWellFormed [0xFFEB] = false ∧
    windowsWellFormed [0xA000, 0xA00F] = false ∧ windowDisjoint 0xA000 0xA00F = false ∧
    windowsWellFormed [0xA000, 0xA010] = true := by decide

theorem test_region_bounds_are_included :
    ({ first := 0x4000, last := 0x4FFF, kind := .rom } : Region).holds 0x4000 = true ∧
    ({ first := 0x4000, last := 0x4FFF, kind := .rom } : Region).holds 0x4FFF = true ∧
    ({ first := 0x4000, last := 0x4FFF, kind := .rom } : Region).holds 0x5000 = false := by decide

/-! ### Decoding: every operation code of Table II, written out in binary (R80, R100) -/

theorem test_decode_adc :
    decode [0b01100001, 0b10010110] = .ok (.adcIndx 0x96, []) ∧
    decode [0b01100101, 0b10010110] = .ok (.adcZp 0x96, []) ∧
    decode [0b01101001, 0b10010110] = .ok (.adcImm 0x96, []) ∧
    decode [0b01101101, 0b00111100, 0b10010110] = .ok (.adcAbs 0x963C, []) ∧
    decode [0b01110001, 0b10010110] = .ok (.adcIndy 0x96, []) ∧
    decode [0b01110101, 0b10010110] = .ok (.adcZpx 0x96, []) ∧
    decode [0b01111001, 0b00111100, 0b10010110] = .ok (.adcAbsy 0x963C, []) ∧
    decode [0b01111101, 0b00111100, 0b10010110] = .ok (.adcAbsx 0x963C, []) := ⟨rfl, rfl, rfl, rfl, rfl, rfl, rfl, rfl⟩

theorem test_decode_and :
    decode [0b00100001, 0b10010110] = .ok (.andIndx 0x96, []) ∧
    decode [0b00100101, 0b10010110] = .ok (.andZp 0x96, []) ∧
    decode [0b00101001, 0b10010110] = .ok (.andImm 0x96, []) ∧
    decode [0b00101101, 0b00111100, 0b10010110] = .ok (.andAbs 0x963C, []) ∧
    decode [0b00110001, 0b10010110] = .ok (.andIndy 0x96, []) ∧
    decode [0b00110101, 0b10010110] = .ok (.andZpx 0x96, []) ∧
    decode [0b00111001, 0b00111100, 0b10010110] = .ok (.andAbsy 0x963C, []) ∧
    decode [0b00111101, 0b00111100, 0b10010110] = .ok (.andAbsx 0x963C, []) := ⟨rfl, rfl, rfl, rfl, rfl, rfl, rfl, rfl⟩

theorem test_decode_asl :
    decode [0b00000110, 0b10010110] = .ok (.aslZp 0x96, []) ∧
    decode [0b00001010] = .ok (.aslAcc, []) ∧
    decode [0b00001110, 0b00111100, 0b10010110] = .ok (.aslAbs 0x963C, []) ∧
    decode [0b00010110, 0b10010110] = .ok (.aslZpx 0x96, []) ∧
    decode [0b00011110, 0b00111100, 0b10010110] = .ok (.aslAbsx 0x963C, []) := ⟨rfl, rfl, rfl, rfl, rfl⟩

theorem test_decode_bcc :
    decode [0b10010000, 0b10010110] = .ok (.bcc 0x96, []) := rfl

theorem test_decode_bcs :
    decode [0b10110000, 0b10010110] = .ok (.bcs 0x96, []) := rfl

theorem test_decode_beq :
    decode [0b11110000, 0b10010110] = .ok (.beq 0x96, []) := rfl

theorem test_decode_bit :
    decode [0b00100100, 0b10010110] = .ok (.bitZp 0x96, []) ∧
    decode [0b00101100, 0b00111100, 0b10010110] = .ok (.bitAbs 0x963C, []) := ⟨rfl, rfl⟩

theorem test_decode_bmi :
    decode [0b00110000, 0b10010110] = .ok (.bmi 0x96, []) := rfl

theorem test_decode_bne :
    decode [0b11010000, 0b10010110] = .ok (.bne 0x96, []) := rfl

theorem test_decode_bpl :
    decode [0b00010000, 0b10010110] = .ok (.bpl 0x96, []) := rfl

theorem test_decode_brk :
    decode [0b00000000] = .ok (.brk, []) := rfl

theorem test_decode_bvc :
    decode [0b01010000, 0b10010110] = .ok (.bvc 0x96, []) := rfl

theorem test_decode_bvs :
    decode [0b01110000, 0b10010110] = .ok (.bvs 0x96, []) := rfl

theorem test_decode_clc :
    decode [0b00011000] = .ok (.clc, []) := rfl

theorem test_decode_cld :
    decode [0b11011000] = .ok (.cld, []) := rfl

theorem test_decode_cli :
    decode [0b01011000] = .ok (.cli, []) := rfl

theorem test_decode_clv :
    decode [0b10111000] = .ok (.clv, []) := rfl

theorem test_decode_cmp :
    decode [0b11000001, 0b10010110] = .ok (.cmpIndx 0x96, []) ∧
    decode [0b11000101, 0b10010110] = .ok (.cmpZp 0x96, []) ∧
    decode [0b11001001, 0b10010110] = .ok (.cmpImm 0x96, []) ∧
    decode [0b11001101, 0b00111100, 0b10010110] = .ok (.cmpAbs 0x963C, []) ∧
    decode [0b11010001, 0b10010110] = .ok (.cmpIndy 0x96, []) ∧
    decode [0b11010101, 0b10010110] = .ok (.cmpZpx 0x96, []) ∧
    decode [0b11011001, 0b00111100, 0b10010110] = .ok (.cmpAbsy 0x963C, []) ∧
    decode [0b11011101, 0b00111100, 0b10010110] = .ok (.cmpAbsx 0x963C, []) := ⟨rfl, rfl, rfl, rfl, rfl, rfl, rfl, rfl⟩

theorem test_decode_cpx :
    decode [0b11100000, 0b10010110] = .ok (.cpxImm 0x96, []) ∧
    decode [0b11100100, 0b10010110] = .ok (.cpxZp 0x96, []) ∧
    decode [0b11101100, 0b00111100, 0b10010110] = .ok (.cpxAbs 0x963C, []) := ⟨rfl, rfl, rfl⟩

theorem test_decode_cpy :
    decode [0b11000000, 0b10010110] = .ok (.cpyImm 0x96, []) ∧
    decode [0b11000100, 0b10010110] = .ok (.cpyZp 0x96, []) ∧
    decode [0b11001100, 0b00111100, 0b10010110] = .ok (.cpyAbs 0x963C, []) := ⟨rfl, rfl, rfl⟩

theorem test_decode_dec :
    decode [0b11000110, 0b10010110] = .ok (.decZp 0x96, []) ∧
    decode [0b11001110, 0b00111100, 0b10010110] = .ok (.decAbs 0x963C, []) ∧
    decode [0b11010110, 0b10010110] = .ok (.decZpx 0x96, []) ∧
    decode [0b11011110, 0b00111100, 0b10010110] = .ok (.decAbsx 0x963C, []) := ⟨rfl, rfl, rfl, rfl⟩

theorem test_decode_dex :
    decode [0b11001010] = .ok (.dex, []) := rfl

theorem test_decode_dey :
    decode [0b10001000] = .ok (.dey, []) := rfl

theorem test_decode_eor :
    decode [0b01000001, 0b10010110] = .ok (.eorIndx 0x96, []) ∧
    decode [0b01000101, 0b10010110] = .ok (.eorZp 0x96, []) ∧
    decode [0b01001001, 0b10010110] = .ok (.eorImm 0x96, []) ∧
    decode [0b01001101, 0b00111100, 0b10010110] = .ok (.eorAbs 0x963C, []) ∧
    decode [0b01010001, 0b10010110] = .ok (.eorIndy 0x96, []) ∧
    decode [0b01010101, 0b10010110] = .ok (.eorZpx 0x96, []) ∧
    decode [0b01011001, 0b00111100, 0b10010110] = .ok (.eorAbsy 0x963C, []) ∧
    decode [0b01011101, 0b00111100, 0b10010110] = .ok (.eorAbsx 0x963C, []) := ⟨rfl, rfl, rfl, rfl, rfl, rfl, rfl, rfl⟩

theorem test_decode_inc :
    decode [0b11100110, 0b10010110] = .ok (.incZp 0x96, []) ∧
    decode [0b11101110, 0b00111100, 0b10010110] = .ok (.incAbs 0x963C, []) ∧
    decode [0b11110110, 0b10010110] = .ok (.incZpx 0x96, []) ∧
    decode [0b11111110, 0b00111100, 0b10010110] = .ok (.incAbsx 0x963C, []) := ⟨rfl, rfl, rfl, rfl⟩

theorem test_decode_inx :
    decode [0b11101000] = .ok (.inx, []) := rfl

theorem test_decode_iny :
    decode [0b11001000] = .ok (.iny, []) := rfl

theorem test_decode_jmp :
    decode [0b01001100, 0b00111100, 0b10010110] = .ok (.jmpAbs 0x963C, []) ∧
    decode [0b01101100, 0b00111100, 0b10010110] = .ok (.jmpInd 0x963C, []) := ⟨rfl, rfl⟩

theorem test_decode_jsr :
    decode [0b00100000, 0b00111100, 0b10010110] = .ok (.jsr 0x963C, []) := rfl

theorem test_decode_lda :
    decode [0b10100001, 0b10010110] = .ok (.ldaIndx 0x96, []) ∧
    decode [0b10100101, 0b10010110] = .ok (.ldaZp 0x96, []) ∧
    decode [0b10101001, 0b10010110] = .ok (.ldaImm 0x96, []) ∧
    decode [0b10101101, 0b00111100, 0b10010110] = .ok (.ldaAbs 0x963C, []) ∧
    decode [0b10110001, 0b10010110] = .ok (.ldaIndy 0x96, []) ∧
    decode [0b10110101, 0b10010110] = .ok (.ldaZpx 0x96, []) ∧
    decode [0b10111001, 0b00111100, 0b10010110] = .ok (.ldaAbsy 0x963C, []) ∧
    decode [0b10111101, 0b00111100, 0b10010110] = .ok (.ldaAbsx 0x963C, []) := ⟨rfl, rfl, rfl, rfl, rfl, rfl, rfl, rfl⟩

theorem test_decode_ldx :
    decode [0b10100010, 0b10010110] = .ok (.ldxImm 0x96, []) ∧
    decode [0b10100110, 0b10010110] = .ok (.ldxZp 0x96, []) ∧
    decode [0b10101110, 0b00111100, 0b10010110] = .ok (.ldxAbs 0x963C, []) ∧
    decode [0b10110110, 0b10010110] = .ok (.ldxZpy 0x96, []) ∧
    decode [0b10111110, 0b00111100, 0b10010110] = .ok (.ldxAbsy 0x963C, []) := ⟨rfl, rfl, rfl, rfl, rfl⟩

theorem test_decode_ldy :
    decode [0b10100000, 0b10010110] = .ok (.ldyImm 0x96, []) ∧
    decode [0b10100100, 0b10010110] = .ok (.ldyZp 0x96, []) ∧
    decode [0b10101100, 0b00111100, 0b10010110] = .ok (.ldyAbs 0x963C, []) ∧
    decode [0b10110100, 0b10010110] = .ok (.ldyZpx 0x96, []) ∧
    decode [0b10111100, 0b00111100, 0b10010110] = .ok (.ldyAbsx 0x963C, []) := ⟨rfl, rfl, rfl, rfl, rfl⟩

theorem test_decode_lsr :
    decode [0b01000110, 0b10010110] = .ok (.lsrZp 0x96, []) ∧
    decode [0b01001010] = .ok (.lsrAcc, []) ∧
    decode [0b01001110, 0b00111100, 0b10010110] = .ok (.lsrAbs 0x963C, []) ∧
    decode [0b01010110, 0b10010110] = .ok (.lsrZpx 0x96, []) ∧
    decode [0b01011110, 0b00111100, 0b10010110] = .ok (.lsrAbsx 0x963C, []) := ⟨rfl, rfl, rfl, rfl, rfl⟩

theorem test_decode_nop :
    decode [0b11101010] = .ok (.nop, []) := rfl

theorem test_decode_ora :
    decode [0b00000001, 0b10010110] = .ok (.oraIndx 0x96, []) ∧
    decode [0b00000101, 0b10010110] = .ok (.oraZp 0x96, []) ∧
    decode [0b00001001, 0b10010110] = .ok (.oraImm 0x96, []) ∧
    decode [0b00001101, 0b00111100, 0b10010110] = .ok (.oraAbs 0x963C, []) ∧
    decode [0b00010001, 0b10010110] = .ok (.oraIndy 0x96, []) ∧
    decode [0b00010101, 0b10010110] = .ok (.oraZpx 0x96, []) ∧
    decode [0b00011001, 0b00111100, 0b10010110] = .ok (.oraAbsy 0x963C, []) ∧
    decode [0b00011101, 0b00111100, 0b10010110] = .ok (.oraAbsx 0x963C, []) := ⟨rfl, rfl, rfl, rfl, rfl, rfl, rfl, rfl⟩

theorem test_decode_pha :
    decode [0b01001000] = .ok (.pha, []) := rfl

theorem test_decode_php :
    decode [0b00001000] = .ok (.php, []) := rfl

theorem test_decode_pla :
    decode [0b01101000] = .ok (.pla, []) := rfl

theorem test_decode_plp :
    decode [0b00101000] = .ok (.plp, []) := rfl

theorem test_decode_rol :
    decode [0b00100110, 0b10010110] = .ok (.rolZp 0x96, []) ∧
    decode [0b00101010] = .ok (.rolAcc, []) ∧
    decode [0b00101110, 0b00111100, 0b10010110] = .ok (.rolAbs 0x963C, []) ∧
    decode [0b00110110, 0b10010110] = .ok (.rolZpx 0x96, []) ∧
    decode [0b00111110, 0b00111100, 0b10010110] = .ok (.rolAbsx 0x963C, []) := ⟨rfl, rfl, rfl, rfl, rfl⟩

theorem test_decode_ror :
    decode [0b01100110, 0b10010110] = .ok (.rorZp 0x96, []) ∧
    decode [0b01101010] = .ok (.rorAcc, []) ∧
    decode [0b01101110, 0b00111100, 0b10010110] = .ok (.rorAbs 0x963C, []) ∧
    decode [0b01110110, 0b10010110] = .ok (.rorZpx 0x96, []) ∧
    decode [0b01111110, 0b00111100, 0b10010110] = .ok (.rorAbsx 0x963C, []) := ⟨rfl, rfl, rfl, rfl, rfl⟩

theorem test_decode_rti :
    decode [0b01000000] = .ok (.rti, []) := rfl

theorem test_decode_rts :
    decode [0b01100000] = .ok (.rts, []) := rfl

theorem test_decode_sbc :
    decode [0b11100001, 0b10010110] = .ok (.sbcIndx 0x96, []) ∧
    decode [0b11100101, 0b10010110] = .ok (.sbcZp 0x96, []) ∧
    decode [0b11101001, 0b10010110] = .ok (.sbcImm 0x96, []) ∧
    decode [0b11101101, 0b00111100, 0b10010110] = .ok (.sbcAbs 0x963C, []) ∧
    decode [0b11110001, 0b10010110] = .ok (.sbcIndy 0x96, []) ∧
    decode [0b11110101, 0b10010110] = .ok (.sbcZpx 0x96, []) ∧
    decode [0b11111001, 0b00111100, 0b10010110] = .ok (.sbcAbsy 0x963C, []) ∧
    decode [0b11111101, 0b00111100, 0b10010110] = .ok (.sbcAbsx 0x963C, []) := ⟨rfl, rfl, rfl, rfl, rfl, rfl, rfl, rfl⟩

theorem test_decode_sec :
    decode [0b00111000] = .ok (.sec, []) := rfl

theorem test_decode_sed :
    decode [0b11111000] = .ok (.sed, []) := rfl

theorem test_decode_sei :
    decode [0b01111000] = .ok (.sei, []) := rfl

theorem test_decode_sta :
    decode [0b10000001, 0b10010110] = .ok (.staIndx 0x96, []) ∧
    decode [0b10000101, 0b10010110] = .ok (.staZp 0x96, []) ∧
    decode [0b10001101, 0b00111100, 0b10010110] = .ok (.staAbs 0x963C, []) ∧
    decode [0b10010001, 0b10010110] = .ok (.staIndy 0x96, []) ∧
    decode [0b10010101, 0b10010110] = .ok (.staZpx 0x96, []) ∧
    decode [0b10011001, 0b00111100, 0b10010110] = .ok (.staAbsy 0x963C, []) ∧
    decode [0b10011101, 0b00111100, 0b10010110] = .ok (.staAbsx 0x963C, []) := ⟨rfl, rfl, rfl, rfl, rfl, rfl, rfl⟩

theorem test_decode_stx :
    decode [0b10000110, 0b10010110] = .ok (.stxZp 0x96, []) ∧
    decode [0b10001110, 0b00111100, 0b10010110] = .ok (.stxAbs 0x963C, []) ∧
    decode [0b10010110, 0b10010110] = .ok (.stxZpy 0x96, []) := ⟨rfl, rfl, rfl⟩

theorem test_decode_sty :
    decode [0b10000100, 0b10010110] = .ok (.styZp 0x96, []) ∧
    decode [0b10001100, 0b00111100, 0b10010110] = .ok (.styAbs 0x963C, []) ∧
    decode [0b10010100, 0b10010110] = .ok (.styZpx 0x96, []) := ⟨rfl, rfl, rfl⟩

theorem test_decode_tax :
    decode [0b10101010] = .ok (.tax, []) := rfl

theorem test_decode_tay :
    decode [0b10101000] = .ok (.tay, []) := rfl

theorem test_decode_tsx :
    decode [0b10111010] = .ok (.tsx, []) := rfl

theorem test_decode_txa :
    decode [0b10001010] = .ok (.txa, []) := rfl

theorem test_decode_txs :
    decode [0b10011010] = .ok (.txs, []) := rfl

theorem test_decode_tya :
    decode [0b10011000] = .ok (.tya, []) := rfl

/-! ### Times: Table I (R359) -/

/-- Table I as the statements use it lists every operation code once. -/
theorem test_cycles_of_table_one :
    (cyclesOfTableOne.flatMap Prod.snd).length = 151 ∧
    (cyclesOfTableOne.flatMap Prod.snd).all (fun op => (opcodeForm op).isSome) = true ∧
    (cyclesOfTableOne.flatMap Prod.snd).Nodup := by decide +kernel

/-! ### Single instructions: vectors of 95_test_vectors.md, by their numbers there -/

theorem test_T2_adc :
    let t := run (.adcImm 0xFF) { start with a := 0xFF, pc := 0x0200, p := { clear with c := true, d := false } }
    (t.a, t.p.n, t.p.v, t.p.z) = (0xFF, true, false, false) ∧
    (t.p.c, t.pc) = (true, 0x0202) := by decide

theorem test_T5_adc :
    let t := run (.adcImm 0x80) { start with a := 0x80, pc := 0x0200, p := { clear with c := false, d := false } }
    (t.a, t.p.n, t.p.v, t.p.z) = (0x00, false, true, true) ∧
    (t.p.c, t.pc) = (true, 0x0202) := by decide

theorem test_T15_adc :
    let t := run (.adcImm 0x27) { start with a := 0x15, pc := 0x0200, p := { clear with c := false, d := true } }
    (t.a, t.p.c, t.pc) = (0x42, false, 0x0202) := by decide

theorem test_T20_sbc :
    let t := run (.sbcImm 0x01) { start with a := 0x00, pc := 0x0200, p := { clear with c := true, d := true } }
    (t.a, t.p.c, t.pc) = (0x99, false, 0x0202) := by decide

theorem test_T22_sbc :
    let t := run (.sbcImm 0x01) { start with a := 0x00, pc := 0x0200, p := { clear with c := true, d := false } }
    (t.a, t.p.n, t.p.v, t.p.z) = (0xFF, true, false, false) ∧
    (t.p.c, t.pc) = (false, 0x0202) := by decide

theorem test_T26_sbc :
    let t := run (.sbcImm 0xFF) { start with a := 0x7F, pc := 0x0200, p := { clear with c := true, d := false } }
    (t.a, t.p.n, t.p.v, t.p.z) = (0x80, true, true, false) ∧
    (t.p.c, t.pc) = (false, 0x0202) := by decide

theorem test_T31_cmp :
    let t := run (.cmpImm 0x41) { start with a := 0x40, pc := 0x0200 }
    (t.p.n, t.p.z, t.p.c, t.pc) = (true, false, false, 0x0202) := by decide

theorem test_T39_cpx :
    let t := run (.cpxImm 0xFF) { start with x := 0x00, pc := 0x0200 }
    (t.p.n, t.p.z, t.p.c, t.pc) = (false, false, false, 0x0202) := by decide

theorem test_T42_cpy :
    let t := run (.cpyZp 0x42) { start with y := 0x08, pc := 0x0200, mem := [(0x0042, 0x08)] }
    (t.p.n, t.p.z, t.p.c, t.pc) = (false, true, true, 0x0202) := by decide

theorem test_T44_inc :
    let t := run (.incZp 0x30) { start with pc := 0x0200, mem := [(0x0030, 0x7F)] }
    (t.mem.read 0x0030, t.p.n, t.p.z, t.pc) = (0x80, true, false, 0x0202) := by decide

theorem test_T47_inc :
    let t := run (.incAbsx 0x04F0) { start with x := 0x20, pc := 0x0200, mem := [(0x0510, 0xFE)] }
    (t.mem.read 0x0510, t.p.n, t.p.z, t.pc) = (0xFF, true, false, 0x0203) := by decide

theorem test_T48_dec :
    let t := run (.decZp 0x30) { start with pc := 0x0200 }
    (t.mem.read 0x0030, t.p.n, t.p.z, t.pc) = (0xFF, true, false, 0x0202) := by decide

theorem test_T53_inx :
    let t := run (.inx) { start with x := 0x7F, pc := 0x0200 }
    (t.x, t.p.n, t.p.z, t.pc) = (0x80, true, false, 0x0201) := by decide

theorem test_T55_dex :
    let t := run (.dex) { start with x := 0x01, pc := 0x0200 }
    (t.x, t.p.n, t.p.z, t.pc) = (0x00, false, true, 0x0201) := by decide

theorem test_T56_iny :
    let t := run (.iny) { start with y := 0xFF, pc := 0x0200 }
    (t.y, t.p.n, t.p.z, t.pc) = (0x00, false, true, 0x0201) := by decide

theorem test_T57_dey :
    let t := run (.dey) { start with y := 0x00, pc := 0x0200 }
    (t.y, t.p.n, t.p.z, t.pc) = (0xFF, true, false, 0x0201) := by decide

theorem test_T60_and :
    let t := run (.andImm 0xC0) { start with a := 0xFF, pc := 0x0200 }
    (t.a, t.p.n, t.p.z, t.pc) = (0xC0, true, false, 0x0202) := by decide

theorem test_T63_and :
    let t := run (.andIndy 0x40) { start with a := 0x3C, y := 0x02, pc := 0x0200, mem := [(0x0041, 0x30), (0x3002,
      0x18)] }
    (t.a, t.p.n, t.p.z, t.pc) = (0x18, false, false, 0x0202) := by decide

theorem test_T65_ora :
    let t := run (.oraImm 0x80) { start with a := 0x01, pc := 0x0200 }
    (t.a, t.p.n, t.p.z, t.pc) = (0x81, true, false, 0x0202) := by decide

theorem test_T70_eor :
    let t := run (.eorIndx 0x10) { start with a := 0x0F, x := 0x04, pc := 0x0200, mem := [(0x0015, 0x40), (0x4000,
      0x0F)] }
    (t.a, t.p.n, t.p.z, t.pc) = (0x00, false, true, 0x0202) := by decide

theorem test_T71_bit :
    let t := run (.bitZp 0x50) { start with a := 0x08, pc := 0x0200, mem := [(0x0050, 0xC0)] }
    (t.p.n, t.p.v, t.p.z, t.pc) = (true, true, true, 0x0202) := by decide

theorem test_T79_asl :
    let t := run (.aslZp 0x20) { start with pc := 0x0200, mem := [(0x0020, 0x81)] }
    (t.mem.read 0x0020, t.p.n, t.p.z, t.p.c) = (0x02, false, false, true) ∧
    t.pc = 0x0202 := by decide

theorem test_T82_asl :
    let t := run (.aslAbsx 0x30FF) { start with x := 0x01, pc := 0x0200, mem := [(0x3100, 0x40)] }
    (t.mem.read 0x3100, t.p.n, t.p.z, t.p.c) = (0x80, true, false, false) ∧
    t.pc = 0x0203 := by decide

theorem test_T84_lsr :
    let t := run (.lsrAcc) { start with a := 0xFF, pc := 0x0200 }
    (t.a, t.p.n, t.p.z, t.p.c) = (0x7F, false, false, true) ∧
    t.pc = 0x0201 := by decide

theorem test_T88_rol :
    let t := run (.rolAcc) { start with a := 0x80, pc := 0x0200, p := { clear with c := true } }
    (t.a, t.p.n, t.p.z, t.p.c) = (0x01, false, false, true) ∧
    t.pc = 0x0201 := by decide

theorem test_T94_ror :
    let t := run (.rorAcc) { start with a := 0x00, pc := 0x0200, p := { clear with c := true } }
    (t.a, t.p.n, t.p.z, t.p.c) = (0x80, true, false, false) ∧
    t.pc = 0x0201 := by decide

theorem test_T98_ror :
    let t := run (.rorAbsx 0x3000) { start with x := 0x02, pc := 0x0200, p := { clear with c := true } }
    (t.mem.read 0x3002, t.p.n, t.p.z, t.p.c) = (0x80, true, false, false) ∧
    t.pc = 0x0203 := by decide

theorem test_T100_bcc :
    let t := run (.bcc 0x10) { start with pc := 0x0200, p := { clear with c := true } }
    t.pc = 0x0202 := by decide

theorem test_T101_bcs :
    let t := run (.bcs 0x10) { start with pc := 0x0200, p := { clear with c := true } }
    t.pc = 0x0212 := by decide

theorem test_T103_beq :
    let t := run (.beq 0x06) { start with pc := 0x0200, p := { clear with z := true } }
    t.pc = 0x0208 := by decide

theorem test_T107_bne :
    let t := run (.bne 0xF8) { start with pc := 0x3004, p := { clear with z := false } }
    t.pc = 0x2FFE := by decide

theorem test_T108_bmi :
    let t := run (.bmi 0x7F) { start with pc := 0x0200, p := { clear with n := true } }
    t.pc = 0x0281 := by decide

theorem test_T112_bpl :
    let t := run (.bpl 0x80) { start with pc := 0x0200, p := { clear with n := false } }
    t.pc = 0x0182 := by decide

theorem test_T113_bvc :
    let t := run (.bvc 0x00) { start with pc := 0x0200, p := { clear with v := false } }
    t.pc = 0x0202 := by decide

theorem test_T115_bvs :
    let t := run (.bvs 0xFE) { start with pc := 0x0200, p := { clear with v := true } }
    t.pc = 0x0200 := by decide

theorem test_T120_bne :
    let t := run (.bne 0x20) { start with pc := 0xFFF0, p := { clear with z := false } }
    t.pc = 0x0012 := by decide

theorem test_T122_jmp :
    let t := run (.jmpAbs 0x3020) { start with pc := 0x0200 }
    t.pc = 0x3020 := by decide

theorem test_T124_jmp :
    let t := run (.jmpInd 0x2036) { start with pc := 0x0200, mem := [(0x2036, 0xA9), (0x2037, 0x54)] }
    t.pc = 0x54A9 := by decide

theorem test_T126_jsr :
    let t := run (.jsr 0x0300) { start with sp := 0xFF, pc := 0x2200 }
    (t.sp, t.mem.read 0x01FF, t.mem.read 0x01FE, t.pc) = (0xFD, 0x22, 0x02, 0x0300) := by decide

theorem test_T127_jsr :
    let t := run (.jsr 0x0300) { start with sp := 0x00, pc := 0x2200 }
    (t.sp, t.mem.read 0x0100, t.mem.read 0x01FF, t.pc) = (0xFE, 0x22, 0x02, 0x0300) := by decide

theorem test_T129_rts :
    let t := run (.rts) { start with sp := 0xFD, pc := 0x0300, mem := [(0x01FE, 0x02), (0x01FF, 0x22)] }
    (t.sp, t.pc) = (0xFF, 0x2203) := by decide

theorem test_T130_rts :
    let t := run (.rts) { start with sp := 0xFF, pc := 0x0300, mem := [(0x0100, 0xFF), (0x0101, 0xFF)] }
    (t.sp, t.pc) = (0x01, 0x0000) := by decide

theorem test_T131_clc :
    let t := run (.clc) { start with pc := 0x0200, p := { clear with c := true } }
    (t.p.c, t.pc) = (false, 0x0201) := by decide

theorem test_T133_sec :
    let t := run (.sec) { start with pc := 0x0200, p := { clear with c := false } }
    (t.p.c, t.pc) = (true, 0x0201) := by decide

theorem test_T134_cld :
    let t := run (.cld) { start with pc := 0x0200, p := { clear with d := true } }
    (t.p.d, t.pc) = (false, 0x0201) := by decide

theorem test_T135_sed :
    let t := run (.sed) { start with pc := 0x0200, p := { clear with d := false } }
    (t.p.d, t.pc) = (true, 0x0201) := by decide

theorem test_T136_cli :
    let t := run (.cli) { start with pc := 0x0200, p := { clear with i := true } }
    (t.p.i, t.pc) = (false, 0x0201) := by decide

theorem test_T137_sei :
    let t := run (.sei) { start with pc := 0x0200, p := { clear with i := false } }
    (t.p.i, t.pc) = (true, 0x0201) := by decide

theorem test_T138_clv :
    let t := run (.clv) { start with pc := 0x0200, p := { clear with v := true } }
    (t.p.v, t.pc) = (false, 0x0201) := by decide

theorem test_T140_nop :
    let t := run (.nop) { start with pc := 0x0200 }
    t.pc = 0x0201 := by decide

theorem test_T144_rti :
    let t := run (.rti) { start with 
        sp := 0xFC
        pc := 0x9000
        mem := [(0x01FD, 0x10), (0x01FE, 0x52), (0x01FF, 0x20)] }
    (t.sp, t.p.n, t.p.v, t.p.b) = (0xFF, false, false, true) ∧
    (t.p.d, t.p.i, t.p.z, t.p.c) = (false, false, false, false) ∧
    t.pc = 0x2052 := by decide

theorem test_T146_rti :
    let t := run (.rti) { start with 
        sp := 0xFE
        pc := 0x9000
        mem := [(0x0100, 0x34), (0x0101, 0x12), (0x01FF, 0x01)] }
    (t.sp, t.p.n, t.p.v, t.p.b) = (0x01, false, false, false) ∧
    (t.p.d, t.p.i, t.p.z, t.p.c) = (false, false, false, true) ∧
    t.pc = 0x1234 := by decide

theorem test_T151_lda :
    let t := run (.ldaAbsx 0x903A) { start with x := 0x30, pc := 0x0200, mem := [(0x906A, 0x11)] }
    (t.a, t.p.n, t.p.z, t.pc) = (0x11, false, false, 0x0203) := by decide

theorem test_T154_lda :
    let t := run (.ldaZpx 0x20) { start with x := 0xF4, pc := 0x0200, mem := [(0x0014, 0x44)] }
    (t.a, t.p.n, t.p.z, t.pc) = (0x44, false, false, 0x0202) := by decide

theorem test_T157_lda :
    let t := run (.ldaIndx 0xF0) { start with x := 0x20, pc := 0x0200, mem := [(0x0011, 0x60)] }
    (t.a, t.p.n, t.p.z, t.pc) = (0x00, false, true, 0x0202) := by decide

theorem test_T159_lda :
    let t := run (.ldaIndy 0xA8) { start with 
        y := 0xD0
        pc := 0x0200
        mem := [(0x00A8, 0x37), (0x00A9, 0x15), (0x1607, 0x77)] }
    (t.a, t.p.n, t.p.z, t.pc) = (0x77, false, false, 0x0202) := by decide

theorem test_T160_lda :
    let t := run (.ldaAbsx 0xFFFF) { start with x := 0x02, pc := 0x0200, mem := [(0x0001, 0x99)] }
    (t.a, t.p.n, t.p.z, t.pc) = (0x99, true, false, 0x0203) := by decide

theorem test_T163_ldx :
    let t := run (.ldxZpy 0xF0) { start with y := 0x11, pc := 0x0200, mem := [(0x0001, 0x42)] }
    (t.x, t.p.n, t.p.z, t.pc) = (0x42, false, false, 0x0202) := by decide

theorem test_T165_ldx :
    let t := run (.ldxAbsy 0x30FF) { start with y := 0x01, pc := 0x0200, mem := [(0x3100, 0x01)] }
    (t.x, t.p.n, t.p.z, t.pc) = (0x01, false, false, 0x0203) := by decide

theorem test_T168_ldy :
    let t := run (.ldyZpx 0x10) { start with x := 0x01, pc := 0x0200, mem := [(0x0011, 0x05)] }
    (t.y, t.p.n, t.p.z, t.pc) = (0x05, false, false, 0x0202) := by decide

theorem test_T171_sta :
    let t := run (.staZp 0x10) { start with a := 0x00, pc := 0x0200 }
    (t.mem.read 0x0010, t.pc) = (0x00, 0x0202) := by decide

theorem test_T173_sta :
    let t := run (.staZpx 0xF0) { start with a := 0x12, x := 0x20, pc := 0x0200 }
    (t.mem.read 0x0010, t.pc) = (0x12, 0x0202) := by decide

theorem test_T177_sta :
    let t := run (.staIndy 0x40) { start with a := 0x0C, y := 0x03, pc := 0x0200, mem := [(0x0041, 0x30)] }
    (t.mem.read 0x3003, t.pc) = (0x0C, 0x0202) := by decide

theorem test_T179_stx :
    let t := run (.stxZpy 0xFF) { start with x := 0x77, y := 0x02, pc := 0x0200 }
    (t.mem.read 0x0001, t.pc) = (0x77, 0x0202) := by decide

theorem test_T182_sty :
    let t := run (.styZpx 0x10) { start with y := 0x80, x := 0x05, pc := 0x0200 }
    (t.mem.read 0x0015, t.pc) = (0x80, 0x0202) := by decide

theorem test_T185_tax :
    let t := run (.tax) { start with a := 0x80, pc := 0x0200 }
    (t.x, t.p.n, t.p.z, t.pc) = (0x80, true, false, 0x0201) := by decide

theorem test_T187_tay :
    let t := run (.tay) { start with a := 0x00, pc := 0x0200 }
    (t.y, t.p.n, t.p.z, t.pc) = (0x00, false, true, 0x0201) := by decide

theorem test_T188_txa :
    let t := run (.txa) { start with x := 0xFF, pc := 0x0200 }
    (t.a, t.p.n, t.p.z, t.pc) = (0xFF, true, false, 0x0201) := by decide

theorem test_T191_tya :
    let t := run (.tya) { start with y := 0x80, pc := 0x0200 }
    (t.a, t.p.n, t.p.z, t.pc) = (0x80, true, false, 0x0201) := by decide

theorem test_T193_tsx :
    let t := run (.tsx) { start with sp := 0x00, pc := 0x0200 }
    (t.x, t.p.n, t.p.z, t.pc) = (0x00, false, true, 0x0201) := by decide

theorem test_T195_txs :
    let t := run (.txs) { start with x := 0x00, pc := 0x0200 }
    (t.sp, t.pc) = (0x00, 0x0201) := by decide

theorem test_T197_pha :
    let t := run (.pha) { start with a := 0x00, sp := 0x00, pc := 0x0200 }
    (t.sp, t.mem.read 0x0100, t.pc) = (0xFF, 0x00, 0x0201) := by decide

theorem test_T198_pla :
    let t := run (.pla) { start with sp := 0xFE, pc := 0x0200 }
    (t.a, t.sp, t.p.n, t.p.z) = (0x00, 0xFF, false, true) ∧
    t.pc = 0x0201 := by decide

theorem test_T199_pla :
    let t := run (.pla) { start with sp := 0xFF, pc := 0x0200, mem := [(0x0100, 0x80)] }
    (t.a, t.sp, t.p.n, t.p.z) = (0x80, 0x00, true, false) ∧
    t.pc = 0x0201 := by decide

theorem test_T202_plp :
    let t := run (.plp) { start with sp := 0xFE, pc := 0x0200, mem := [(0x01FF, 0xC3)] }
    (t.sp, t.p.n, t.p.v, t.p.b) = (0xFF, true, true, false) ∧
    (t.p.d, t.p.i, t.p.z, t.p.c) = (false, false, true, true) ∧
    t.pc = 0x0201 := by decide

/-! ### The opcode table's words, and the step that runs them -/

theorem test_decode_table_word :
    decodeTableWord 24 0x2055AD = some (.ldaAbs 0x2055) ∧ decodeTableWord 8 0xEA = some .nop ∧
    decodeTableWord 16 0xFAB1 = some (.ldaIndy 0xFA) ∧ decodeTableWord 8 0x02 = none := by decide

theorem test_decode_refuses :
    decode [0x02, 0x00, 0x00] = .error (.unlistedOpcode 0x02) ∧ decode [0xAD, 0x00] = .error .truncated ∧
    decode [] = .error .truncated := ⟨rfl, rfl, rfl⟩

theorem test_encode_low_byte_first : encode (.ldaAbs 0x2055) = [0xAD, 0x55, 0x20] := by decide

theorem test_step_runs_the_placed_word :
    step (State.reset.withFetchWord 16 0x9AA9) =
      exec (.ldaImm 0x9A) { State.reset.withFetchWord 16 0x9AA9 with cycles := 2 } := by rfl

theorem test_core_starts_at_reset : Sys2Proof.core.reset = State.reset := rfl

/-! ### Flags and pushed bytes -/

theorem test_pack_places : ∀ b5 b4 : Bool,
    (Flags.pack b5 b4 { clear with n := true, d := true, c := true }).getLsbD 7 = true ∧
    (Flags.pack b5 b4 { clear with n := true, d := true, c := true }).getLsbD 3 = true ∧
    (Flags.pack b5 b4 { clear with n := true, d := true, c := true }).getLsbD 2 = false ∧
    (Flags.pack b5 b4 { clear with n := true, d := true, c := true }).getLsbD 4 = b4 := by decide

/-- W: a pulled byte loads `B` only where it has storage. -/
theorem test_unpack_break :
    (Flags.unpack .latch 0x10 clear).b = true ∧ (Flags.unpack .free 0x10 clear).b = false ∧
    (Flags.unpack .latch 0x20 clear) = clear := by decide

/-! ### Interrupts (vectors Q of 95_test_vectors.md) -/

/-- The state of Q1. -/
def atQ1 : State :=
  { start with
    pc := 0x2052, sp := 0xFF, p := { clear with c := true }
    mem := [(0xFFFB, 0x80), (0xFFFF, 0x90)], io := { Io.atReset [] with irqLine := false } }

theorem test_Q1_irq_is_taken : boundary (arrive atQ1) = .irq ∧ (irqSequence atQ1).sp = 0xFC ∧
    (irqSequence atQ1).p = { clear with c := true, i := true, b := true } := by decide

theorem test_Q1_return_address :
    (pushAddr atQ1.pc atQ1).mem.read 0x01FF = 0x20 ∧ (pushAddr atQ1.pc atQ1).mem.read 0x01FE = 0x52 ∧
    (jumpThrough irqVector atQ1).pc = 0x9000 := by decide

theorem test_Q2_masked : boundary { atQ1 with p := { clear with i := true } } = .run := by decide

theorem test_Q3_level_not_latched :
    boundary (arrive { atQ1 with io := { atQ1.io with env := [[.irq true]] } }) = .run := by decide

theorem test_Q5_nmi_first : boundary { atQ1 with io := { atQ1.io with nmiPending := true } } = .nmi ∧
    (nmiSequence { atQ1 with io := { atQ1.io with nmiPending := true } }).io.nmiPending = false := by decide

theorem test_Q6_edges_latch_once :
    boundary (arrive { start with io := { Io.atReset [] with
      env := [[.nmi false, .nmi true, .nmi false, .nmi true]] } }) = .nmi ∧
    boundary (arrive { start with io := { Io.atReset [] with env := [[.nmi true]] } }) = .run := by decide

theorem test_Q9_reset_sequence :
    let s : State :=
      { start with mem := [(0xFFFD, 0xF0)], io := { Io.atReset [] with env := [[.res false], [.res true]] } }
    boundary (arrive s) = .held ∧ boundary (arrive (arrive s)) = .reset ∧
    (resetSequence (arrive (arrive s))).pc = 0xF000 ∧ (resetSequence (arrive (arrive s))).p.i = true ∧
    (resetSequence (arrive (arrive s))).mem = s.mem := by decide

/-! ### Platform and devices on the bus -/

/-- A ROM region, an empty region and a VIA. -/
def board : State :=
  { start with
    mem := [(0xF000, 0x4C)]
    io := Io.atReset [Via.atReset 0xA000]
    cfg := { Config.standard with
      map := [
        { first := 0xF000, last := 0xFFFF, kind := .rom },
        { first := 0x8000, last := 0x9FFF, kind := .unmapped }] } }

theorem test_rom_ignores_writes : busWrite board 0xF000 0x11 = board ∧ busRead board 0xF000 = (0x4C, board) := by decide

theorem test_unmapped_ignores_writes : busWrite board 0x8000 0x11 = board := by decide

theorem test_via_register_on_the_bus :
    (busRead (busWrite board 0xA003 0x3F) 0xA003).1 = 0x3F ∧ (busWrite board 0xA003 0x3F).mem = board.mem ∧
    (busRead board 0xA00E).1 = 0x80 := by decide

theorem test_writes_keep_the_canonical_form :
    (busWrite (busWrite start 0x0010 0x01) 0x0010 0x00) = start := by decide

/-- Off the VIAs an indexed address is formed without any access, beside a VIA too. -/
theorem test_indexed_address_off_the_vias :
    (Place.absx 0x9FFF).ea board = (0x9FFF, board) ∧ (Place.absy 0xA010).ea board = (0xA010, board) ∧
    (Place.zpx 0xFF).ea { board with x := 0x02 } = (0x0001, { board with x := 0x02 }) := by decide

/-- Further reads of T1C-L before a read of a VIA would reset its T1 flag (R292, R354). -/
theorem test_unlisted_reads_reset_a_flag :
    let s : State := { board with io := Io.atReset [{ Via.atReset 0xA000 with ifr := 0x7F }] }
    (repeatAccess false 0xA004 2 s).io.vias.map Via.ifr = [0x3F] ∧ (repeatAccess false 0xA004 0 s) = s := by decide

theorem ddra_after_busWrite (s : State) (b : Byte) (h : s.io.vias.map Via.base = [0xA000]) :
    (busWrite s 0xA003 b).io.vias.map (fun v => v.portA.ddr) = [b] := by
  have hc : s.io.claims 0xA003 = true := claims_of_bases (io := Io.atReset [Via.atReset 0xA000]) h 0xA003
  have hs := (settle_bases s.cfg s.io).trans h
  simp only [busWrite, hc, if_true, Io.writeReg, Io.draw]
  generalize (s.io.settle s.cfg).vias = vs at hs
  obtain ⟨v, rfl, hv⟩ := List.map_eq_singleton_iff.mp hs
  have hr : selectReg v.base 0xA003 = some .ddra := by rw [hv]; decide
  have hw := fun d => viasWrite_first hr b d [] [] (by simp)
  simp only [List.nil_append] at hw
  rw [hw]
  rfl

/-- T176 (R329): `STA ($80,X)` to a data direction register sets it, whatever accesses may come before the store. -/
theorem test_T176_indexed_store_to_a_via :
    let t := run (.staIndx 0x80) { board with a := 0xFF, pc := 0x0200, mem := [(0x0080, 0x03), (0x0081, 0xA0)] }
    t.io.vias.map (fun v => v.portA.ddr) = [0xFF] ∧ t.pc = 0x0202 :=
  ⟨ddra_after_busWrite _ _ (ea_bases _ _), congrArg (· + 2) ((busWrite_pc _ _ _).trans (ea_pc _ _))⟩

/-! ### The VIA (vectors W of 95_test_vectors.md) -/

/-- A VIA just reset. -/
def via : Via := Via.atReset 0xA000

theorem test_W1_after_reset :
    via.readValue .ddra 0 = 0 ∧ via.readValue .ddrb 0 = 0 ∧ via.readValue .acr 0 = 0 ∧ via.readValue .pcr 0 = 0 ∧
    via.readValue .ifr 0 = 0 ∧ via.readValue .ier 0 = 0x80 ∧ via.irqActive = false := by decide

theorem test_W2_enables :
    let a := via.write .ier 0x92 0
    let b := a.write .ier 0x03 0
    let c := b.write .ier 0x82 0
    let d := c.write .ier 0x7F 0
    a.readValue .ier 0 = 0x92 ∧ b.readValue .ier 0 = 0x90 ∧ c.readValue .ier 0 = 0x92 ∧ d.readValue .ier 0 = 0x80 ∧
    (d.write .ier 0x80 0).ier = 0 := by decide

theorem test_W3_ca1_interrupt :
    let a := via.event .unstated 0 (.c1 .a false)
    let b := a.write .ier 0x82 0
    let c := b.readEffect .ora 0
    a.readValue .ifr 0 = 0x02 ∧ a.irqActive = false ∧ b.readValue .ifr 0 = 0x82 ∧ b.irqActive = true ∧
    c.readValue .ifr 0 = 0x00 ∧ c.irqActive = false := by decide

theorem test_W4_timer1_load :
    let a := via.write .t1cL 0x24 0
    let b := a.write .t1cH 0x80 0
    a.t1.latchLow = 0x24 ∧ a.t1.counter = via.t1.counter ∧ b.t1.latchHigh = 0x80 ∧ b.t1.counter = 0x8024 ∧
    b.t1.isOpen = false := by decide

theorem test_W6_ports :
    let v := (via.event .unstated 0 (.port .a 0xFF 0x5A)).write .ddrb 0xFF 0
    let w := v.write .orb 0x5A 0
    v.readValue .ora 0 = 0x5A ∧ w.readValue .orb 0 = 0x5A ∧ w.pins .b = 0x5A := by decide

theorem test_W7_outputs_and_pins :
    let p : Via :=
      { via with
        portA := { via.portA with out := 0x15, ddr := 0x3F, forced := 0xC1, level := 0x80 }
        portB := { via.portB with out := 0xA5, ddr := 0xF0, forced := 0x0F, level := 0x06 } }
    p.readValue .orb 0 = 0xA6 ∧ p.readValue .ora 0 = 0x94 := by decide

theorem test_W8_latching :
    let v := ((via.write .acr 0x01 0).event .unstated 0 (.port .a 0xFF 0x11)).event .unstated 0 (.c1 .a false)
    let w := v.event .unstated 0 (.port .a 0xFF 0x22)
    let x := w.readEffect .ora 0
    w.readValue .ora 0 = 0x11 ∧ x.flag 1 = false ∧ x.readValue .ora 0 = 0x22 := by decide

theorem test_W9_flags_written_one :
    let v : Via := { via with ifr := 0x12, ier := 0x10 }
    let w := v.write .ifr 0x10 0
    v.readValue .ifr 0 = 0x92 ∧ w.readValue .ifr 0 = 0x02 ∧ (w.write .ifr 0x82 0).readValue .ifr 0 = 0x00 := by decide

theorem test_W10_rising_edge :
    let v := (via.event .unstated 0 (.c1 .a false)).write .ifr 0x7F 0 |>.write .pcr 0x01 0
    let w := v.event .unstated 0 (.c1 .a true)
    let x := w.event .unstated 0 (.c1 .a false)
    v.readValue .ifr 0 = 0x00 ∧ w.readValue .ifr 0 = 0x02 ∧ x.readValue .ifr 0 = 0x02 := by decide

theorem test_W11_timer2_counts_pulses :
    let v := ((via.write .acr 0x20 0).write .t2cL 0x03 0).write .t2cH 0x00 0
    let w := (v.pb6Pulse 0).pb6Pulse 0
    v.t2.counter = 3 ∧ w.readValue .ifr 0 = 0x00 ∧ (w.pb6Pulse 0).readValue .ifr 0 = 0x20 := by decide

/-- R325: in mode 11 timer 1 is reloaded and inverts PB7 at zero; the flag stays. -/
theorem test_R325_square_wave :
    let v := (((via.write .ddrb 0xFF 0).write .acr 0xC0 0).write .t1cL 0x02 0).write .t1cH 0x00 0
    (v.pins .b).getLsbD 7 = false ∧ ((Via.ticks 2 v).pins .b).getLsbD 7 = true ∧
    (Via.ticks 2 v).t1.counter = 2 ∧ ((Via.ticks 4 v).pins .b).getLsbD 7 = false ∧
    (Via.ticks 4 v).flag t1Flag = true := by decide

/-- R327: CB2 follows $E0 and $C0 in PCR. -/
theorem test_R327_cb2_levels :
    (via.write .pcr 0xE0 0).c2Level .b = true ∧ (via.write .pcr 0xC0 0).c2Level .b = false := by decide

/-- R309: a handshake on CA2 starts with a read of ORA and ends with CA1. -/
theorem test_R309_handshake :
    let v := (via.write .pcr 0x08 0).readEffect .ora 0
    v.c2Level .a = false ∧ (v.event .unstated 0 (.c1 .a false)).c2Level .a = true := by decide

/-! ### The source's assembly listing (R109) -/

/-- A hexadecimal number of an operand. -/
def hex (ds : List Nat) : Expr := Expr.number 16 ds

set_option maxRecDepth 20000 in
theorem test_listing :
    assemble [] [.org (hex [3, 0, 0, 0]), .code none .ldy (.imm (hex [15, 15])),
      .code (some "LOOP2") .ldx (.imm (hex [15, 15])), .code (some "LOOP1") .dex .none,
      .code none .bne (.plain (.symbol "LOOP1")), .code none .dey .none,
      .code none .bne (.plain (.symbol "LOOP2"))] =
    some [(0x3000, .ldyImm 0xFF), (0x3002, .ldxImm 0xFF), (0x3004, .dex), (0x3005, .bne 0xFD), (0x3007, .dey),
      (0x3008, .bne 0xF8)] := by decide +kernel

/-- R96, R106: a branch to a label, and by a displacement byte; the choices of log entry 41. -/
theorem test_operands_that_do_not_fit :
    let at0 (mode : Mode) (op : Op) (e : Expr) : Placed := { at_ := 0x3000, op := op, mode := mode, expr := e }
    (at0 .relative .bne (.symbol "L")).instr [("L", 0x3000)] = some (.bne 0xFE) ∧
    (at0 .relative .bne (hex [15, 14])).instr [] = some (.bne 0xFE) ∧
    (at0 .relative .bne (.symbol "L")).instr [("L", 0x3082)] = none ∧
    (at0 .immediate .lda (hex [1, 15, 15])).instr [] = none ∧
    (at0 .immediate .lda (.div (hex [1]) (hex [0]))).instr [] = none := by decide +kernel

/-! ### Runs (D23) -/

/-- `LDX #$02`, `DEX`, `JMP` to itself: the run ends where the instruction jumps to itself. -/
theorem test_run_until_loop :
    let s : State :=
      { start with mem := [(0x0000, 0xA2), (0x0001, 0x02), (0x0002, 0xCA), (0x0003, 0x4C), (0x0004, 0x03)] }
    (match runUntil jumpsToItself 5 s with
      | .next t => (t.pc, t.x, t.cycles, pcReaches 0x0003 t)
      | _ => (0, 0, 0, false)) = (0x0003, 0x01, 4, true) := by decide +kernel

/-- R356: 1000 cycles at 1 MHz take 1 millisecond. -/
theorem test_delay_seconds : delaySeconds 1000000 start { start with cycles := 1000 } = 1 / 1000 := by
  norm_num [delaySeconds, start, State.reset]

/-! ### Witnesses: a state and operands that meet the hypotheses of each statement that has some -/

theorem witness_DecodeOfEncode : (Instr.staAbsx 0xFFFF).wellFormed = true ∧ (Instr.bne 0x80).wellFormed = true :=
  ⟨rfl, rfl⟩

theorem witness_EncodeOfDecode :
    decode [0xA9, 0x9A, 0x00] = .ok (.ldaImm 0x9A, [0x00]) ∧ decode [0x6C, 0xFF, 0x20] = .ok (.jmpInd 0x20FF, []) :=
  ⟨rfl, rfl⟩

theorem witness_UnlistedCodesHaveNoMeaning :
    (0x02 : Byte) ∈ unlistedCodes ∧ (0xFF : Byte) ∈ unlistedCodes ∧
    (let s : State := { start with pc := 0xFFFF, mem := [(0xFFFF, 0xFF)] }
     boundary (arrive s) = .run ∧ (arrive s).isMemory s.pc = true ∧ s.mem.read s.pc ∈ unlistedCodes) := by decide

/-- No VIA claims an address of a list that has been computed. -/
theorem off_the_vias {s : State} {l : List Addr} (as : List Addr) (e : l = as)
    (h : as.all (fun a => !s.io.claims a) = true) : ∀ a ∈ l, s.io.claims a = false := by
  subst e
  simpa using h

theorem witness_EffectiveAddresses :
    (∀ a ∈ placeAccesses (.zpx 0xFF) board, board.io.claims a = false) ∧
    (∀ a ∈ placeAccesses (.zpy 0x00) board, board.io.claims a = false) ∧
    (∀ a ∈ placeAccesses (.absx 0x9FFF) board, board.io.claims a = false) ∧
    (∀ a ∈ placeAccesses (.absy 0xA010) board, board.io.claims a = false) :=
  ⟨off_the_vias [0x00FF, 0x00FF] (by decide) (by decide), off_the_vias [0x0000, 0x0000] (by decide) (by decide),
    off_the_vias [0x9FFF, 0x9FFF] (by decide) (by decide), off_the_vias [0xA010, 0xA010] (by decide) (by decide)⟩

/-- A pointer at $FF, whose high-order byte is at $00. -/
theorem witness_PointerAddresses :
    (let s : State := { start with x := 0x01 }
     s.isMemory (zext (0xFE + s.x)) = true ∧ s.isMemory (zext (0xFE + s.x + 1)) = true) ∧
    start.isMemory (zext 0xFF) = true ∧ start.isMemory (zext (0xFF + 1)) = true ∧
    (∀ a ∈ placeAccesses (.indx 0xFF) board, board.io.claims a = false) ∧
    (∀ a ∈ placeAccesses (.indy 0xFF) board, board.io.claims a = false) :=
  ⟨by decide, by decide, by decide, off_the_vias [0x00FF, 0x0000, 0x0000, 0x0000] (by decide) (by decide),
    off_the_vias [0x00FF, 0x0000, 0x0000, 0x0000] (by decide) (by decide)⟩

theorem witness_MemoryAccesses :
    (let p : Place := .absx 0xFFFF
     (p.ea start).2 = start ∧ start.isMemory (p.ea start).1 = true) ∧
    start.isRam 0x0000 = true ∧ start.isRam 0xFFFF = true ∧ (0x0000 : Addr) ≠ 0xFFFF ∧
    board.io.claims 0xF000 = false ∧ board.isRam 0xF000 = false ∧ board.io.claims 0x8000 = false ∧
    board.isRam 0x9FFF = false ∧ start.mem.wf := by decide

/-- An instruction whose operand is at the other end of the address space. -/
theorem witness_StepRunsTheDecodedInstruction :
    let s : State := { start with pc := 0xFFFF, mem := [(0x0000, 0x55), (0x0001, 0x20), (0xFFFF, 0xAD)] }
    boundary (arrive s) = .run ∧
    (∀ k, k < (Instr.ldaAbs 0x2055).length → (arrive s).isMemory (s.pc + BitVec.ofNat 16 k) = true) ∧
    decode [s.mem.read s.pc, s.mem.read (s.pc + 1), s.mem.read (s.pc + 2)] = .ok (.ldaAbs 0x2055, []) ∧
    (Instr.ldaAbs 0x2055).wellFormed = true ∧ s.cfg.viaTime = .free := by
  intro s
  have bytes : [s.mem.read s.pc, s.mem.read (s.pc + 1), s.mem.read (s.pc + 2)] = [0xAD, 0x55, 0x20] := by decide
  refine ⟨by decide, ?_, by rw [bytes]; rfl, rfl, rfl⟩
  intro k hk
  have : k = 0 ∨ k = 1 ∨ k = 2 := by
    have : k < 3 := hk
    omega
  rcases this with rfl | rfl | rfl <;> decide

/-- A program beside a VIA, under VIA_TIME = cycles. -/
def beside : State :=
  { start with
    pc := 0x0300, mem := [(0x0300, 0xB1), (0x0301, 0xFF)]
    io := Io.atReset [Via.atReset 0xA000], cfg := { Config.standard with viaTime := .cycles } }

/-- The premises of the clause on VIA_TIME = cycles, for a read through a pointer. -/
theorem witness_StepRunsTheDecodedInstruction_cycles :
    boundary (arrive beside) = .run ∧ beside.io.env = [] ∧ beside.cfg.viaTime = .cycles ∧
    [beside.mem.read beside.pc, beside.mem.read (beside.pc + 1), beside.mem.read (beside.pc + 2)] = [0xB1, 0xFF, 0x00] ∧
    decode [0xB1, 0xFF, 0x00] = .ok (.ldaIndy 0xFF, [0x00]) ∧
    (Instr.ldaIndy 0xFF).ontoItself beside = false ∧
    (∀ a ∈ (Instr.ldaIndy 0xFF).accesses beside, beside.io.claims a = false) := by
  refine ⟨by decide, rfl, rfl, by decide, rfl, rfl, ?_⟩
  exact off_the_vias (l := placeAccesses (.indy 0xFF) beside) [0x00FF, 0x0000, 0x0000, 0x0000] (by decide) (by decide)

/-- Under VIA_TIME = cycles a NOP gives a VIA its two clock pulses. -/
theorem test_cycles_reach_the_via :
    let v := (via.write .t1cL 0x05 0).write .t1cH 0x00 0
    let s : State :=
      { start with
        mem := [(0x0000, 0xEA)], io := Io.atReset [v], cfg := { Config.standard with viaTime := .cycles } }
    (match step s with
      | .next t => t.io.vias.map (fun w => w.t1.counter)
      | _ => []) = [3] := by decide +kernel

theorem witness_StepChoosesByPriority :
    (let r := arrive { start with io := { start.io with resLine := false } }
     r.io.resLine = false) ∧
    (let r := arrive { start with io := { start.io with resetDue := true, nmiPending := true } }
     r.io.resLine = true ∧ r.io.resetDue = true) ∧
    (let r := arrive { start with io := { start.io with nmiPending := true, irqLine := false } }
     r.io.resLine = true ∧ r.io.resetDue = false ∧ r.io.nmiPending = true) ∧
    (let r := arrive { start with io := { start.io with irqLine := false } }
     r.io.resLine = true ∧ r.io.resetDue = false ∧ r.io.nmiPending = false ∧ r.io.irqLow = true ∧ r.p.i = false) ∧
    (let r := arrive start
     r.io.resLine = true ∧ r.io.resetDue = false ∧ r.io.nmiPending = false ∧ r.io.irqLow = false) ∧
    (let r := arrive { start with p := { clear with i := true }, io := { start.io with irqLine := false } }
     r.io.resLine = true ∧ r.io.resetDue = false ∧ r.io.nmiPending = false ∧ r.p.i = true) := by decide

theorem witness_StepKeepsInvariant : StateInv State.reset ∧ ∃ t, step State.reset = .next t := by
  refine ⟨⟨by decide, ?_, by decide, rfl⟩, ⟨_, rfl⟩⟩
  intro v hv
  simp only [State.reset, Io.atReset, List.mem_singleton] at hv
  subst hv
  exact ⟨by decide, by decide⟩

theorem witness_StepKeepsThePlatform : ∃ t, step State.reset = .next t := ⟨_, rfl⟩

/-- A program in page $01 with a stack pointer of $FC. -/
def onStack (pc : Addr) : State := { start with pc := pc, sp := 0xFC }

/-- R351, U11: a JSR whose pushes land on its first or on its last byte is refused; one just above or below them runs. -/
theorem test_jsr_onto_itself :
    exec (.jsr 0x1234) (onStack 0x01FC) = .refused (.ontoItself 0x01FC) ∧
    exec (.jsr 0x1234) (onStack 0x01F9) = .refused (.ontoItself 0x01F9) ∧
    (run (.jsr 0x1234) (onStack 0x01FD)).pc = 0x1234 ∧ (run (.jsr 0x1234) (onStack 0x01F8)).pc = 0x1234 :=
  ⟨rfl, rfl, by decide, by decide⟩

/-- R351, U11: a BRK whose last push lands on it is refused; one just below it runs. -/
theorem test_brk_onto_itself :
    exec .brk (onStack 0x01FA) = .refused (.ontoItself 0x01FA) ∧ (run .brk (onStack 0x01F9)).sp = 0xF9 :=
  ⟨rfl, by decide⟩

theorem witness_NothingFaults :
    step { start with mem := [(0x0000, 0x02)] } = .refused (.unlistedOpcode 0x02) ∧ (0x02 : Byte) ∈ unlistedCodes ∧
    (Instr.jsr 0x1234).ontoItself (onStack 0x01FD) = false ∧ (Instr.jsr 0x1234).ontoItself (onStack 0x01FB) = true ∧
    Instr.brk.ontoItself (onStack 0x01FD) = false ∧ Instr.brk.ontoItself (onStack 0x01FC) = true ∧
    step { onStack 0x01FC with mem := [(0x01FC, 0x20)] } = .refused (.ontoItself 0x01FC) :=
  ⟨rfl, by decide, by decide, by decide, by decide, by decide, rfl⟩

theorem witness_InstructionsLeaveTheLines :
    State.reset.io.env = [] ∧ (∃ t, exec .brk State.reset = .next t) ∧
    (let s : State := { start with io := { start.io with env := [[.nmi false, .irq false], []] } }
     s.io.env = [.nmi false, .irq false] :: [[]]) ∧
    start.io.nmiLine :: [false, false, true, false] = [] ++ true :: false :: [false, true, false] ∧
    (∀ high, EnvEvent.clock 1 ≠ .nmi high ∧ EnvEvent.clock 1 ≠ .res high ∧ EnvEvent.clock 1 ≠ .irq high) :=
  ⟨rfl, ⟨_, rfl⟩, rfl, rfl, fun _ => ⟨nofun, nofun, nofun⟩⟩

theorem witness_FlagsWrittenByWhom :
    (∃ t, exec .nop start = .next t) ∧ Instr.nop.op.writesN = false ∧ Instr.nop.op.writesV = false ∧
    Instr.nop.op.writesB = false ∧ Instr.nop.op.writesD = false ∧ Instr.nop.op.writesI = false ∧
    Instr.nop.op.writesC = false := ⟨⟨_, rfl⟩, by decide⟩

theorem witness_RegistersAndMemoryWrittenByWhom :
    (∃ t, exec .aslAcc start = .next t) ∧ (∃ t, exec (.aslZp 0xFF) start = .next t) ∧
    (Instr.aslZp 0xFF).writesA = false ∧ Instr.aslAcc.op.writesX = false ∧ Instr.aslAcc.op.writesY = false ∧
    Instr.aslAcc.op.writesSp = false ∧ Instr.aslAcc.writesMemory = false := ⟨⟨_, rfl⟩, ⟨_, rfl⟩, by decide⟩

theorem witness_LoadsLoadTheirOperand :
    (Instr.ldaImm 0xFF).operand = some (.imm 0xFF) ∧ (Instr.ldaImm 0xFF).op = .lda ∧
    (Instr.ldxZpy 0xFF).operand = some (.mem (.zpy 0xFF)) ∧ (Instr.ldxZpy 0xFF).op = .ldx ∧
    (Instr.ldyAbsx 0xFFFF).operand = some (.mem (.absx 0xFFFF)) ∧ (Instr.ldyAbsx 0xFFFF).op = .ldy := by decide

theorem witness_StoresStoreTheirRegister :
    (Instr.staIndy 0xFF).place = some (.indy 0xFF) ∧ (Instr.staIndy 0xFF).op = .sta ∧
    (Instr.stxZpy 0xFF).place = some (.zpy 0xFF) ∧ (Instr.stxZpy 0xFF).op = .stx ∧
    (Instr.styAbs 0xF000).place = some (.abs 0xF000) ∧ (Instr.styAbs 0xF000).op = .sty ∧
    (let e := (Place.indy 0xFF).ea start
     e.2.isRam e.1 = true) ∧
    (let e := (Place.abs 0xF000).ea board
     e.2.isRam e.1 = false) := by decide

theorem witness_AdcInBinaryMode :
    (Instr.adcImm 0xFF).op = .adc ∧ (Instr.adcImm 0xFF).operand = some (.imm 0xFF) ∧ start.p.d = false := by decide

theorem witness_SbcInBinaryMode :
    (Instr.sbcIndx 0xFF).op = .sbc ∧ (Instr.sbcIndx 0xFF).operand = some (.mem (.indx 0xFF)) ∧ start.p.d = false := by
  decide

/-- The largest valid decimal operands, in both instructions. -/
theorem witness_DecimalArithmetic :
    let s : State := { start with a := 0x99, p := { clear with d := true } }
    (Instr.adcImm 0x99).op = .adc ∧ (Instr.adcImm 0x99).operand = some (.imm 0x99) ∧
    (Instr.sbcImm 0x99).op = .sbc ∧ (Instr.sbcImm 0x99).operand = some (.imm 0x99) ∧ s.p.d = true ∧
    validBcd s.a = true ∧ validBcd ((Operand.imm 0x99).read s).1 = true := by decide

theorem witness_ComparisonsSetFlags :
    (Instr.cmpImm 0xFF).operand = some (.imm 0xFF) ∧ (Instr.cmpImm 0xFF).op = .cmp ∧
    (Instr.cpxZp 0x00).operand = some (.mem (.zp 0x00)) ∧ (Instr.cpxZp 0x00).op = .cpx ∧
    (Instr.cpyAbs 0xFFFF).operand = some (.mem (.abs 0xFFFF)) ∧ (Instr.cpyAbs 0xFFFF).op = .cpy := by decide

theorem witness_IncDecChangeMemory :
    (Instr.incAbsx 0xFFFF).target = some (.mem (.absx 0xFFFF)) ∧ (Instr.incAbsx 0xFFFF).op = .inc ∧
    (Instr.decZp 0xFF).target = some (.mem (.zp 0xFF)) ∧ (Instr.decZp 0xFF).op = .dec ∧
    (let e := (Place.absx 0xFFFF).ea start
     let m := busRead e.2 e.1
     (0x01 : Byte).toNat = (m.1.toNat + 1) % 256 ∧ (0xFF : Byte).toNat = (m.1.toNat + 255) % 256 ∧
     m.2.isRam e.1 = true) ∧
    (let e := (Place.abs 0xF000).ea board
     let m := busRead e.2 e.1
     (0x4D : Byte).toNat = (m.1.toNat + 1) % 256 ∧ m.2.isRam e.1 = false) := by decide

theorem witness_LogicAndBitTest :
    (Instr.andImm 0x80).operand = some (.imm 0x80) ∧ (Instr.andImm 0x80).op = .and ∧
    (Instr.eorZp 0xFF).operand = some (.mem (.zp 0xFF)) ∧ (Instr.eorZp 0xFF).op = .eor ∧
    (Instr.oraAbsy 0xFFFF).operand = some (.mem (.absy 0xFFFF)) ∧ (Instr.oraAbsy 0xFFFF).op = .ora ∧
    (Instr.bitAbs 0xA001).operand = some (.mem (.abs 0xA001)) ∧ (Instr.bitAbs 0xA001).op = .bit := by decide

theorem witness_ShiftsOfMemory :
    (Instr.aslZpx 0xFF).target = some (.mem (.zpx 0xFF)) ∧ (Instr.aslZpx 0xFF).op ≠ .inc ∧
    (Instr.aslZpx 0xFF).op ≠ .dec ∧ (Instr.aslZpx 0xFF).op = .asl ∧ (Instr.lsrAbs 0xF000).op = .lsr ∧
    (Instr.rolAbs 0xF000).op = .rol ∧ (Instr.rorAbs 0xF000).op = .ror ∧
    (Instr.rorAbs 0xF000).target = some (.mem (.abs 0xF000)) ∧
    (let e := (Place.zpx 0xFF).ea start
     let m := busRead e.2 e.1
     m.2.isRam e.1 = true) ∧
    (let e := (Place.abs 0xF000).ea board
     let m := busRead e.2 e.1
     m.2.isRam e.1 = false) := by decide

theorem witness_BranchesTestOneFlag :
    (Instr.bcc 0x80).displacement = some 0x80 ∧ (Instr.bcs 0x7F).displacement = some 0x7F ∧
    (Instr.bne 0xFE).displacement = some 0xFE ∧ (Instr.beq 0x00).displacement = some 0x00 ∧
    (Instr.bpl 0x80).displacement = some 0x80 ∧ (Instr.bmi 0x7F).displacement = some 0x7F ∧
    (Instr.bvc 0xFF).displacement = some 0xFF ∧ (Instr.bvs 0x01).displacement = some 0x01 := by decide

theorem witness_JumpsLoadTheProgramCounter :
    start.isMemory 0x20FE = true ∧ start.isMemory (0x20FE + 1) = true ∧ loByte 0x20FE ≠ 0xFF ∧
    start.isMemory 0xFFFF = true ∧ start.isMemory (0xFFFF + 1) = true ∧ start.isMemory (0xFFFF - 0xFF) = true ∧
    loByte 0xFFFF = 0xFF ∧
    (let s : State := { start with cfg := { Config.standard with jmpIndWrap := .next } }
     s.isMemory 0xFFFF = true ∧ s.isMemory (0xFFFF + 1) = true ∧ s.cfg.jmpIndWrap = .next) ∧
    (let s : State := { start with cfg := { Config.standard with jmpIndWrap := .samePage } }
     s.isMemory 0xFFFF = true ∧ s.isMemory (0xFFFF - 0xFF) = true ∧ s.cfg.jmpIndWrap = .samePage) := by decide

/-- The stack pointer wraps between the two pushes. -/
theorem witness_JsrPushesAndJumps :
    (let s := onStack 0x01FD
     let pushed := [stackAddr s.sp, stackAddr (s.sp - 1)]
     s.pc ∉ pushed ∧ s.pc + 1 ∉ pushed ∧ s.pc + 2 ∉ pushed ∧ s.isRam (stackAddr s.sp) = true ∧
     s.isRam (stackAddr (s.sp - 1)) = true) ∧
    (let s := onStack 0x01F9
     s.pc + 2 ∈ [stackAddr s.sp, stackAddr (s.sp - 1)]) := by decide

theorem witness_RtsPullsAndAddsOne :
    let s : State := { start with sp := 0xFE }
    s.isMemory (stackAddr (s.sp + 1)) = true ∧ s.isMemory (stackAddr (s.sp + 2)) = true := by decide

theorem witness_RtsUndoesJsr :
    start.isRam (stackAddr start.sp) = true ∧ start.isRam (stackAddr (start.sp - 1)) = true ∧
    (Instr.jsr 0x0000).ontoItself start = false := by decide

theorem witness_PushesWriteOneByte : start.isRam (stackAddr start.sp) = true ∧ start.cfg.bModel = .latch := by decide

theorem witness_PullsReadOneByte :
    let s : State := { start with sp := 0xFF }
    s.isMemory (stackAddr (s.sp + 1)) = true := by decide

theorem witness_PullUndoesPush : start.isRam (stackAddr start.sp) = true := by decide

theorem witness_BrkEntersTheHandler :
    (∀ a ∈ frameAddrs start.sp, start.isRam a = true) ∧ start.isMemory 0xFFFE = true ∧
    start.isMemory 0xFFFF = true ∧ start.pc ∉ frameAddrs start.sp ∧
    (onStack 0x01FA).pc ∈ frameAddrs (onStack 0x01FA).sp := ⟨fun _ _ => rfl, by decide⟩

theorem witness_InterruptsEnterTheHandler :
    (∃ t, t = irqSequence start) ∧ (∃ t, t = nmiSequence start) ∧
    (∀ a ∈ frameAddrs start.sp, start.isRam a = true) ∧ start.cfg.bModel = .latch ∧
    start.isMemory 0xFFFE = true ∧ start.isMemory (0xFFFE + 1) = true ∧ start.isMemory 0xFFFA = true ∧
    start.isMemory (0xFFFA + 1) = true ∧ start.io.env = [] := ⟨⟨_, rfl⟩, ⟨_, rfl⟩, fun _ _ => rfl, by decide⟩

theorem witness_RtiReturns :
    let s : State := { start with sp := 0xFD }
    s.isMemory (stackAddr (s.sp + 1)) = true ∧ s.isMemory (stackAddr (s.sp + 2)) = true ∧
    s.isMemory (stackAddr (s.sp + 3)) = true := by decide

theorem witness_RtiUndoesTheEntry :
    (∀ a ∈ frameAddrs (0x01 : Byte), ({ start with sp := 0x01 } : State).isRam a = true) ∧
    start.pc ∉ frameAddrs (0x01 : Byte) := ⟨fun _ _ => rfl, by decide⟩

theorem witness_ResetSequenceStarts : board.isMemory 0xFFFC = true ∧ board.isMemory 0xFFFD = true := by decide

theorem witness_ExecutionTimes :
    (∃ row ∈ cyclesOfTableOne, ∃ op ∈ row.2, (encode (.rolAbsx 0xFFFF)).head? = some op) ∧
    (Instr.bne 0x80).displacement = some 0x80 ∧ (∃ t, exec (.bne 0x80) start = .next t) ∧
    (Instr.ldaAbsx 0xFFFF).operand = some (.mem (.absx 0xFFFF)) ∧
    (Instr.ldxAbsy 0x00FF).operand = some (.mem (.absy 0x00FF)) ∧
    (Instr.eorIndy 0xFF).operand = some (.mem (.indy 0xFF)) ∧
    Instr.nop.displacement = none ∧ Instr.nop.operand = none ∧
    (Instr.staAbsx 0xFFFF).writesMemory = true ∧ Instr.aslAcc.target ≠ none :=
  ⟨⟨(7, [0x00, 0x1E, 0x3E, 0x5E, 0x7E, 0xDE, 0xFE]), by decide, 0x3E, by decide, by decide⟩, by decide, ⟨_, rfl⟩,
    by decide⟩

theorem witness_ViaRegistersAnswerOnTheBus :
    board.io.env = [] ∧ board.cfg.viaTime = .free ∧ board.io.vias = [] ++ via :: [] ∧
    (let s : State := { board with io := Io.atReset [Via.atReset 0xB000, via] }
     s.io.vias = [Via.atReset 0xB000] ++ via :: [] ∧
     (∀ u ∈ [Via.atReset 0xB000], selectReg u.base 0xA00F = none)) ∧
    (65535 : Nat) < 65536 ∧ (16 : Nat) < 65536 ∧
    selectReg via.base 0xA000 = some .orb ∧ selectReg via.base 0xA00F = some .oraNoHandshake ∧
    selectReg via.base 0xA010 = none ∧ selectReg 0xFFF8 0x0001 = some .t2cH := by decide

theorem witness_PortsReadTheirPins :
    let v : Via := { via with acr := 0x03, portA := { via.portA with latched := true },
                              portB := { via.portB with latched := true } }
    (7 : Nat) < 8 ∧ via.portB.forced.getLsbD 7 = false ∧ via.portA.forced.getLsbD 7 = false ∧
    via.acr.getLsbD 7 = false ∧ (via.write .ddra 0x80 0).portA.ddr.getLsbD 7 = true ∧
    via.portB.ddr.getLsbD 7 = false ∧ (via.write .ddrb 0x80 0).portB.ddr.getLsbD 7 = true ∧
    via.latching .a = false ∧ via.latching .b = false ∧
    ¬ (v.latching .a = false ∨ (v.port .a).latched = false) ∧
    ¬ (v.latching .b = false ∨ (v.port .b).latched = false) ∧ v.portB.ddr.getLsbD 0 = false := by decide

theorem witness_AccessesResetFlags :
    (6 : Nat) < 7 ∧ ViaReg.ier ∈ [ViaReg.ddrb, .ddra, .t1cH, .t1lL, .t1lH, .t2cH, .acr, .pcr, .ifr, .ier] ∧
    c2Independent (sideBits (via.write .pcr 0x02 0).pcr .a) = true ∧
    (let v : Via := { via with ifr := 0x40 }
     (v.readEffect .oraNoHandshake 0).flag 6 = true) := by
  refine ⟨by decide, by decide, by decide, ?_⟩
  simp only [Via.readEffect, Via.maybeClearPortA]
  generalize Config.anyBit 0 = x
  generalize Config.anyBit 1 = y
  revert x y
  decide

theorem witness_DirectionAndControlRegisters :
    (7 : Nat) < 8 ∧ (6 : Nat) < 7 ∧ shiftMode 0xE3 = 0 ∧ (0xE3 : Byte).getLsbD 7 = (via.write .acr 0x80 0).acr.getLsbD 7 ∧
    shiftMode 0x14 = shiftMode (via.write .acr 0x14 0).acr ∧ ViaReg.pcr ∈ [ViaReg.ddra, .ddrb, .acr, .pcr] := by
  decide

/-- A general state of timer 1, whose latches differ from its counter. -/
theorem witness_Timer1Load :
    (via.write .acr 0x80 0).drivesPb7 = true ∧
    (let v := (Via.ticks 3 ((via.write .t1cL 0x02 0).write .t1cH 0x01 0)).write .t1lL 0x55 0
     v.t1.isOpen = false ∧ v.t1.counter = 0x00FF ∧ v.t1.latchLow = 0x55) := by decide

/-- Two pulses after a load of 1 a one-shot counter is at $FFFF (R296) or open (U18), and the flag is set once. -/
theorem test_one_shot_past_zero :
    let w (on : Bool) : Via := { via with t1 := via.t1.load 0x00 false false on }
    let one (on : Bool) : Via := { w on with t1 := { (w on).t1 with counter := 1 } }
    (Via.ticks 2 (one true)).readValue .t1cL 0 = 0xFF ∧ (Via.ticks 2 (one false)).t1.isOpen = true ∧
    (one false).tick.flag t1Flag = true ∧ ((one false).tick.clearFlag t1Flag).tick.flag t1Flag = false := by decide

/-- The shortest and the longest count. -/
theorem witness_Timer1OneShot :
    via.freeRunning = false ∧ (via.write .acr 0x80 0).freeRunning = false ∧ (via.write .acr 0x80 0).drivesPb7 = true ∧
    0 < (mkAddr 0x00 0x01).toNat ∧
    0 < (mkAddr 0xFF 0xFF).toNat ∧ (65534 : Nat) < (mkAddr 0xFF 0xFF).toNat ∧ (65535 : Nat) < 65536 := by decide +kernel

theorem witness_Timer1FreeRunning :
    let v := (via.write .acr 0xC0 0).write .t1cL 0xFF 0 |>.write .t1cH 0xFF 0
    v.freeRunning = true ∧ v.t1.isOpen = false ∧ 0 < v.t1.counter.toNat ∧
    (65534 : Nat) < v.t1.counter.toNat ∧ v.drivesPb7 = true := by decide +kernel

theorem witness_Timer2Counts :
    (let v := (via.write .t2cL 0x02 0).write .t2cH 0x01 0
     v.t2.isOpen = false) ∧
    0 < (mkAddr 0x00 0x01).toNat ∧ (65534 : Nat) < (mkAddr 0xFF 0xFF).toNat ∧ via.pulseCounting = false ∧
    (let v := via.write .acr 0x20 0
     v.pulseCounting = true ∧ v.portB.ddr.getLsbD 6 = false) := by decide +kernel

theorem witness_ShiftRegisterShiftsEight :
    shiftMode via.acr = 0 ∧ shiftMode 0x04 = 1 ∧ shiftMode 0x08 = 2 ∧ shiftMode 0x0C = 3 ∧ shiftMode 0x10 = 4 ∧
    shiftMode 0x14 = 5 ∧ shiftMode 0x18 = 6 ∧ shiftMode 0x1C = 7 ∧ (7 : Nat) < 8 ∧
    (let v := via.write .acr 0x10 0
     let w := v.readEffect .sr 0
     shiftMode v.acr = 4 ∧ w.flag srFlag = false ∧ w.shifter.left = 8) ∧
    (let w := via.write .acr 0x0C 0
     shiftMode w.acr = 3 ∧ w.shifter.left = 0) := by decide

/-- R304: in mode 3 the eighth pulse on CB1 sets the flag, with no access of SR before it. -/
theorem test_mode_3_eighth_pulse :
    let v := via.write .acr 0x0C 0
    let seven := (List.range 7).foldl (fun w d => w.shiftPulse .towardBit7 d) v
    seven.readValue .ifr 0 = 0x00 ∧ (seven.shiftPulse .towardBit7 7).readValue .ifr 0 = 0x04 := by decide

theorem witness_Ca1ActiveTransition :
    (via.ctlA.c1 != false && false == via.pcr.getLsbD 0) = true ∧
    (via.ctlA.c1 != true && true == via.pcr.getLsbD 0) = false ∧ (via.write .acr 0x01 0).acr.getLsbD 0 = true ∧
    via.acr.getLsbD 0 = false ∧ c2Handshake (sideBits (via.write .pcr 0x08 0).pcr .a) = true := by decide

theorem witness_ControlLinesFollowPcr :
    shiftMode via.acr = 0 ∧ shiftMode (via.write .acr 0x0C 0).acr ≠ 0 ∧
    (via.ctlB.c1 != false && false == via.pcr.getLsbD 4) = true ∧
    (via.ctlB.c1 != true && true == via.pcr.getLsbD 4) = false ∧ (via.write .acr 0x02 0).acr.getLsbD 1 = true ∧
    c2Handshake (sideBits (via.write .pcr 0x80 0).pcr .b) = true ∧ (sideBits via.pcr .a).getLsbD 3 = false ∧ (sideBits 0x08 .a).getLsbD 3 = true ∧
    (sideBits 0xC0 .b).extractLsb' 1 3 = 0b110#3 ∧ (sideBits 0xE0 .b).extractLsb' 1 3 = 0b111#3 ∧
    (sideBits 0x80 .b).extractLsb' 1 3 = 0b100#3 ∧ (sideBits 0x0A .a).extractLsb' 1 3 = 0b101#3 := by decide

theorem witness_InterruptRegisters : (0 : Nat) < 7 ∧ (6 : Nat) < 7 := by decide

end Sys2Proof.Tests
end

/-! Increment and decrement of an index register (R125, R126, R128, R129): what the shared steps `stepX` and `stepY` do
to the state for any constant, and the time of an instruction that neither crosses a page nor branches. -/

namespace Sys2Proof.Proofs.IndexSteps

open Sys2Proof Sys2Proof.Machine

/-! ### The flags of a sum -/

/-- N and Z after adding `k`: Z is told by the register before the step. -/
theorem setNZ_add (r k : Byte) (f : Flags) :
    f.setNZ (r + k) = { f with n := (r + k).getLsbD 7, z := decide (r = -k) } := by
  have hz : (r + k == 0) = decide (r = -k) := decide_eq_decide.mpr add_eq_zero_iff_eq_neg
  rw [Flags.setNZ, hz]

/-! ### The steps of X and Y -/

theorem stepX_eq (k : Byte) (s : State) :
    stepX k s = { s with
      x := s.x + k, p := { s.p with n := (s.x + k).getLsbD 7, z := decide (s.x = -k) }, pc := s.pc + 1 } := by
  rw [stepX, setNZ_add]; rfl

theorem stepY_eq (k : Byte) (s : State) :
    stepY k s = { s with
      y := s.y + k, p := { s.p with n := (s.y + k).getLsbD 7, z := decide (s.y = -k) }, pc := s.pc + 1 } := by
  rw [stepY, setNZ_add]; rfl

theorem exec_inx (s : State) : exec .inx s = .next (stepX 1 s) := rfl

theorem exec_iny (s : State) : exec .iny s = .next (stepY 1 s) := rfl

theorem exec_dex (s : State) : exec .dex s = .next (stepX (-1) s) := rfl

theorem exec_dey (s : State) : exec .dey s = .next (stepY (-1) s) := rfl

/-! ### Time -/

/-- Neither adjustment of Table I applies (R356). -/
theorem instrCycles_eq_baseCycles {i : Instr} {s : State} (hstar : starred i = false)
    (hbranch : branchTaken i s.p = false) : instrCycles i s = baseCycles i := by
  simp [instrCycles, branchCycles, hstar, hbranch]

/-- Settles O25: the step of X or Y by 1 or by -1, where the register before it is -1 = $FF or 1 just when the result
is zero. -/
theorem indexSteps : Obligations.IndexSteps := by
  unfold Obligations.IndexSteps
  intro s
  have neg_one : (-1 : Byte) = 0xFF := rfl
  refine ⟨?inx, ?iny, ?dex, ?dey, ?codes⟩
  case inx => rw [exec_inx, stepX_eq, neg_one]
  case iny => rw [exec_iny, stepY_eq, neg_one]
  case dex => rw [exec_dex, stepX_eq, neg_neg, ← BitVec.sub_eq_add_neg]
  case dey => rw [exec_dey, stepY_eq, neg_neg, ← BitVec.sub_eq_add_neg]
  case codes =>
    simp only [List.forall_mem_cons]
    exact ⟨⟨rfl, instrCycles_eq_baseCycles rfl rfl⟩, ⟨rfl, instrCycles_eq_baseCycles rfl rfl⟩,
      ⟨rfl, instrCycles_eq_baseCycles rfl rfl⟩, ⟨rfl, instrCycles_eq_baseCycles rfl rfl⟩, List.forall_mem_nil _⟩

end Sys2Proof.Proofs.IndexSteps

/-! The flag instructions and NOP (R181 to R185, R187 to R189): the shared step `setFlags` for any flags, and the
operation that each instruction runs. -/

namespace Sys2Proof.Proofs.FlagsAndNop

open Sys2Proof Sys2Proof.Machine
open Sys2Proof.Proofs.IndexSteps (instrCycles_eq_baseCycles)

/-! ### What the shared steps do -/

theorem advance_one (s : State) : s.advance 1 = { s with pc := s.pc + 1 } := rfl

theorem setFlags_eq (f : Flags) (s : State) : setFlags f s = { s with p := f, pc := s.pc + 1 } := by
  rw [setFlags, advance_one]

/-! ### The operation of each instruction -/

theorem exec_clc (s : State) : exec .clc s = .next (setFlags { s.p with c := false } s) := rfl

theorem exec_sec (s : State) : exec .sec s = .next (setFlags { s.p with c := true } s) := rfl

theorem exec_cld (s : State) : exec .cld s = .next (setFlags { s.p with d := false } s) := rfl

theorem exec_sed (s : State) : exec .sed s = .next (setFlags { s.p with d := true } s) := rfl

theorem exec_cli (s : State) : exec .cli s = .next (setFlags { s.p with i := false } s) := rfl

theorem exec_sei (s : State) : exec .sei s = .next (setFlags { s.p with i := true } s) := rfl

theorem exec_clv (s : State) : exec .clv s = .next (setFlags { s.p with v := false } s) := rfl

theorem exec_nop (s : State) : exec .nop s = .next (s.advance 1) := rfl

/-- Settles O38: seven uses of `setFlags`, and NOP's advance by its one byte; the cycles are those of Table I, as none
of the eight crosses a page or branches. -/
theorem flagInstructionsAndNop : Obligations.FlagInstructionsAndNop := by
  unfold Obligations.FlagInstructionsAndNop
  intro s
  refine ⟨?clc, ?sec, ?cld, ?sed, ?cli, ?sei, ?clv, ?nop, ?codes⟩
  case clc => rw [exec_clc, setFlags_eq]
  case sec => rw [exec_sec, setFlags_eq]
  case cld => rw [exec_cld, setFlags_eq]
  case sed => rw [exec_sed, setFlags_eq]
  case cli => rw [exec_cli, setFlags_eq]
  case sei => rw [exec_sei, setFlags_eq]
  case clv => rw [exec_clv, setFlags_eq]
  case nop => rw [exec_nop, advance_one]
  case codes =>
    intro e he
    fin_cases he <;> exact ⟨rfl, instrCycles_eq_baseCycles rfl rfl⟩

end Sys2Proof.Proofs.FlagsAndNop

/-! The register transfers (R206 to R211): what the three shared moves do to the state for any byte, and the register
that each instruction moves. -/

namespace Sys2Proof.Proofs.Transfers

open Sys2Proof Sys2Proof.Machine
open Sys2Proof.Proofs.IndexSteps (instrCycles_eq_baseCycles)
open Sys2Proof.Proofs.FlagsAndNop (advance_one)

/-! ### What the shared moves do -/

/-- `setNZ` touches N and Z alone, with Z as the proposition that the byte is zero. -/
theorem setNZ_eq (b : Byte) (f : Flags) : f.setNZ b = { f with n := b.getLsbD 7, z := decide (b = 0) } := rfl

theorem moveA_eq (b : Byte) (s : State) :
    moveA b s = { s with a := b, p := { s.p with n := b.getLsbD 7, z := decide (b = 0) }, pc := s.pc + 1 } := by
  rw [moveA, advance_one, setNZ_eq]

theorem moveX_eq (b : Byte) (s : State) :
    moveX b s = { s with x := b, p := { s.p with n := b.getLsbD 7, z := decide (b = 0) }, pc := s.pc + 1 } := by
  rw [moveX, advance_one, setNZ_eq]

theorem moveY_eq (b : Byte) (s : State) :
    moveY b s = { s with y := b, p := { s.p with n := b.getLsbD 7, z := decide (b = 0) }, pc := s.pc + 1 } := by
  rw [moveY, advance_one, setNZ_eq]

/-! ### The operation of each instruction -/

theorem exec_tax (s : State) : exec .tax s = .next (moveX s.a s) := rfl

theorem exec_tay (s : State) : exec .tay s = .next (moveY s.a s) := rfl

theorem exec_tsx (s : State) : exec .tsx s = .next (moveX s.sp s) := rfl

theorem exec_txa (s : State) : exec .txa s = .next (moveA s.x s) := rfl

theorem exec_tya (s : State) : exec .tya s = .next (moveA s.y s) := rfl

theorem exec_txs (s : State) : exec .txs s = .next ({ s with sp := s.x }.advance 1) := rfl

/-- Settles O19: five moves with the flags of the byte moved, and TXS, which writes SP without them; the cycles are
those of Table I, as no transfer crosses a page or branches. -/
theorem transfersMoveARegister : Obligations.TransfersMoveARegister := by
  unfold Obligations.TransfersMoveARegister
  intro s
  refine ⟨?tax, ?tay, ?tsx, ?txa, ?tya, ?txs, ?codes⟩
  case tax => rw [exec_tax, moveX_eq]
  case tay => rw [exec_tay, moveY_eq]
  case tsx => rw [exec_tsx, moveX_eq]
  case txa => rw [exec_txa, moveA_eq]
  case tya => rw [exec_tya, moveA_eq]
  case txs => rw [exec_txs, advance_one]
  case codes =>
    intro e he
    fin_cases he <;> exact ⟨rfl, instrCycles_eq_baseCycles rfl rfl⟩

end Sys2Proof.Proofs.Transfers

/-! CA1 and CB1 (R307, R310): what a level on C1 of a side does, by whether it is the active transition, for either side;
then, for CA1, what the active transition is and that an access of ORA resets its flag. -/

namespace Sys2Proof.Proofs.ControlLineOne

open Sys2Proof Sys2Proof.Machine

/-! ### A level on C1 of a side -/

/-- C1 of a side makes its active transition when it takes the level `high`: the condition in `Via.c1Event`. -/
def c1Active (side : Side) (high : Bool) (v : Via) : Bool :=
  v.pcrActive side && (v.ctl side).c1 != high && high == c1Rising (v.bits side)

/-- A level that is no active transition changes the level of the line alone. -/
theorem c1Event_of_inactive {side : Side} {high : Bool} {v : Via} (h : c1Active side high v = false) :
    v.c1Event side high = v.setCtl side { v.ctl side with c1 := high } :=
  if_neg (ne_true_of_eq_false h)

/-- The active transition sets the flag of C1, latches the port if latching is enabled and ends a handshake on C2. -/
theorem c1Event_of_active {side : Side} {high : Bool} {v : Via} (h : c1Active side high v = true) :
    v.c1Event side high =
      ((v.setFlag (c1Flag side)).setPort side
        (if v.latching side then (v.port side).capture (v.driven side) else v.port side)).setCtl side
          { v.ctl side with c1 := high, c2Out := c2Handshake (v.bits side) || (v.ctl side).c2Out } := by
  refine (if_pos h).trans ?_
  cases v.latching side <;> cases c2Handshake (v.bits side) <;> cases side <;> rfl

theorem c1_c1Event (side : Side) (high : Bool) (v : Via) : ((v.c1Event side high).ctl side).c1 = high := by
  cases h : c1Active side high v with
  | false => rw [c1Event_of_inactive h, ctl_setCtl]
  | true => rw [c1Event_of_active h, ctl_setCtl]

theorem flag_c1Event (side : Side) (high : Bool) (v : Via) :
    (v.c1Event side high).flag (c1Flag side) = (c1Active side high v || v.flag (c1Flag side)) := by
  have hlt : c1Flag side < 7 := by cases side <;> decide
  cases h : c1Active side high v with
  | false => rw [c1Event_of_inactive h, flag_setCtl, Bool.false_or]
  | true =>
    rw [c1Event_of_active h, flag_setCtl, flag_setPort, flag_setFlag _ _ _ hlt, decide_eq_true rfl, Bool.or_true,
      Bool.true_or]

/-- The port is captured at an active transition with latching enabled, and otherwise left alone. -/
theorem port_c1Event (side : Side) (high : Bool) (v : Via) :
    (v.c1Event side high).port side =
      if (c1Active side high v && v.latching side) = true then (v.port side).capture (v.driven side)
      else v.port side := by
  cases h : c1Active side high v with
  | false => rw [c1Event_of_inactive h, port_setCtl, Bool.false_and, if_neg Bool.false_ne_true]
  | true => rw [c1Event_of_active h, port_setCtl, port_setPort, Bool.true_and]

/-! ### CA1 -/

/-- R307: PCR acts on CA1 in every mode, and its bit 0 is the level that the active transition ends at. -/
theorem c1Active_a (high : Bool) (v : Via) :
    c1Active .a high v = (v.ctlA.c1 != high && high == v.pcr.getLsbD 0) := by
  have rising : c1Rising (v.bits .a) = v.pcr.getLsbD 0 := by simp [c1Rising, Via.bits, sideBits]
  rw [c1Active, rising]
  rfl

/-- R286, R287: an access of a port resets the flag of its C1, whatever mode C2 is in. -/
theorem flag_clearPortFlags_c1 (side : Side) (v : Via) : (v.clearPortFlags side).flag (c1Flag side) = false := by
  have hlt : c1Flag side < 7 := by cases side <;> decide
  rw [flag_clearPortFlags side _ v hlt, decide_eq_true rfl, Bool.not_true, Bool.and_false, Bool.false_and]

theorem flag_readEffect_ora (d : Nat) (v : Via) : (v.readEffect .ora d).flag (c1Flag .a) = false := by
  rw [Via.readEffect, flag_setPort, flag_startC2, flag_clearPortFlags_c1]

theorem flag_write_ora (b : Byte) (d : Nat) (v : Via) : (v.write .ora b d).flag (c1Flag .a) = false := by
  rw [Via.write, flag_setPort, flag_startC2, flag_clearPortFlags_c1]

/-- Settles O56: the event is the C1 event of side A, whose active transition is that of R307. -/
theorem ca1ActiveTransition : Obligations.Ca1ActiveTransition := by
  unfold Obligations.Ca1ActiveTransition
  intro v high b d
  dsimp only [Via.event]
  rw [← c1Active_a]
  have hport : (v.c1Event .a high).portA =
      if (c1Active .a high v && v.acr.getLsbD 0) = true then v.portA.capture v.portA.out else v.portA :=
    port_c1Event .a high v
  refine ⟨c1_c1Event .a high v, flag_c1Event .a high v, ?latched, ?notActive, ?notLatching, ?handshake, ?frame,
    flag_readEffect_ora d _, flag_write_ora b d _⟩
  case latched =>
    intro hactive hlatching
    rw [hport, hactive, hlatching]
    exact ⟨rfl, rfl⟩
  case notActive =>
    intro hinactive
    rw [hport, hinactive]
    rfl
  case notLatching =>
    intro hlatching
    rw [hport, hlatching, Bool.and_false]
    rfl
  case handshake =>
    intro hactive hhandshake
    have hc2 : c2Handshake (v.bits .a) = true := hhandshake
    rw [c1Event_of_active hactive, hc2]
    rfl
  case frame =>
    intro hinactive
    rw [c1Event_of_inactive hinactive]
    rfl

end Sys2Proof.Proofs.ControlLineOne

/-! The latches of timer 1 (R294, R295): what a write and a read of registers $6 and $7 do to a VIA. -/

namespace Sys2Proof.Proofs.TimerOneLatches

open Sys2Proof Sys2Proof.Machine

/-! ### Registers $6 and $7 -/

theorem write_t1lL (b : Byte) (d : Nat) (v : Via) :
    v.write .t1lL b d = { v with t1 := { v.t1 with latchLow := b } } := rfl

theorem write_t1lH (b : Byte) (d : Nat) (v : Via) :
    v.write .t1lH b d = { v with t1 := { v.t1 with latchHigh := b } } := rfl

theorem readValue_t1lL (d : Nat) (v : Via) : v.readValue .t1lL d = v.t1.latchLow := rfl

theorem readValue_t1lH (d : Nat) (v : Via) : v.readValue .t1lH d = v.t1.latchHigh := rfl

theorem readEffect_t1lL (d : Nat) (v : Via) : v.readEffect .t1lL d = v := rfl

theorem readEffect_t1lH (d : Nat) (v : Via) : v.readEffect .t1lH d = v := rfl

/-- Settles O50: a write changes one latch and nothing else, so that a read, which has no effect, finds the byte there;
neither the counter nor the T1 flag moves. -/
theorem timer1Latches : Obligations.Timer1Latches := by
  unfold Obligations.Timer1Latches
  intro v b d
  refine ⟨write_t1lL b d v, write_t1lH b d v, ?lowReadBack, ?highReadBack, readValue_t1lL d v, readValue_t1lH d v,
    readEffect_t1lL d v, readEffect_t1lH d v⟩
  case lowReadBack => rw [readValue_t1lL, write_t1lL]
  case highReadBack => rw [readValue_t1lH, write_t1lH]

end Sys2Proof.Proofs.TimerOneLatches

/-! Encoding (R80 to R82, R100, R103, R104): the opcode map read from an instruction to its bytes and back. -/

namespace Sys2Proof.Proofs.Encoding

open Sys2Proof Sys2Proof.Machine

section
open Sys2Proof.Laws.Encoding

/-- The opcode map lists every instruction under its own code, with a form that makes it from its operand bytes. -/
theorem statement_of_instr (i : Instr) : Statement i :=
  Instr.rec (motive := Statement)
    adcIndx adcZp adcImm adcAbs adcIndy adcZpx adcAbsy adcAbsx andIndx andZp andImm andAbs andIndy andZpx
    andAbsy andAbsx aslZp aslAcc aslAbs aslZpx aslAbsx bcc bcs beq bitZp bitAbs bmi bne bpl brk bvc bvs clc
    cld cli clv cmpIndx cmpZp cmpImm cmpAbs cmpIndy cmpZpx cmpAbsy cmpAbsx cpxImm cpxZp cpxAbs cpyImm cpyZp
    cpyAbs decZp decAbs decZpx decAbsx dex dey eorIndx eorZp eorImm eorAbs eorIndy eorZpx eorAbsy eorAbsx
    incZp incAbs incZpx incAbsx inx iny jmpAbs jmpInd jsr ldaIndx ldaZp ldaImm ldaAbs ldaIndy ldaZpx ldaAbsy
    ldaAbsx ldxImm ldxZp ldxAbs ldxZpy ldxAbsy ldyImm ldyZp ldyAbs ldyZpx ldyAbsx lsrZp lsrAcc lsrAbs lsrZpx
    lsrAbsx nop oraIndx oraZp oraImm oraAbs oraIndy oraZpx oraAbsy oraAbsx pha php pla plp rolZp rolAcc rolAbs
    rolZpx rolAbsx rorZp rorAcc rorAbs rorZpx rorAbsx rti rts sbcIndx sbcZp sbcImm sbcAbs sbcIndy sbcZpx
    sbcAbsy sbcAbsx sec sed sei staIndx staZp staAbs staIndy staZpx staAbsy staAbsx stxZp stxAbs stxZpy styZp
    styAbs styZpx tax tay tsx txa txs tya
    i

end

/-! ### From an instruction to its bytes and back -/

theorem decode_encode (i : Instr) (rest : List Byte) : decode (encode i ++ rest) = .ok (i, rest) := by
  obtain ⟨f, hform, hmakes, -⟩ := statement_of_instr i
  cases f with
  | alone j =>
    obtain ⟨rfl, hbytes⟩ := hmakes
    rw [encode, hbytes]
    exact decode_alone hform rest
  | byte mk =>
    obtain ⟨b, rfl, hbytes⟩ := hmakes
    rw [encode, hbytes]
    exact decode_byte hform b rest
  | word mk =>
    obtain ⟨a, rfl, hbytes⟩ := hmakes
    rw [encode, hbytes]
    exact (decode_word hform (loByte a) (hiByte a) rest).trans (by rw [mkAddr_hiByte_loByte])

/-- Settles O1: the opcode map answers the instruction's own code with a form that makes it from its operand bytes. -/
theorem decodeOfEncode : Obligations.DecodeOfEncode := by
  unfold Obligations.DecodeOfEncode
  intro i rest _
  exact decode_encode i rest

/-! ### From bytes to an instruction and back -/

/-- Bytes decode in one of three ways, by the form that the opcode map gives their first byte. -/
theorem decode_ok_cases {bytes rest : List Byte} {i : Instr} (h : decode bytes = .ok (i, rest)) :
    (∃ op, opcodeForm op = some (.alone i) ∧ bytes = op :: rest) ∨
    (∃ op mk b, opcodeForm op = some (.byte mk) ∧ bytes = op :: b :: rest ∧ i = mk b) ∨
    (∃ op mk lo hi, opcodeForm op = some (.word mk) ∧ bytes = op :: lo :: hi :: rest ∧ i = mk (mkAddr hi lo)) := by
  cases bytes with
  | nil => cases h
  | cons op bytes =>
    simp only [decode] at h
    split at h
    case h_1 => cases h
    case h_2 hform => cases h; exact .inl ⟨op, hform, rfl⟩
    case h_3 hform => cases h; exact .inr (.inl ⟨op, _, _, hform, rfl, rfl⟩)
    case h_4 hform => cases h; exact .inr (.inr ⟨op, _, _, _, hform, rfl, rfl⟩)
    case h_5 => cases h

theorem encode_length (i : Instr) : (encode i).length = i.mode.length := by
  obtain ⟨f, -, hmakes, hlength⟩ := statement_of_instr i
  rw [← hlength, encode]
  cases f with
  | alone j => rw [hmakes.2]; rfl
  | byte mk => obtain ⟨b, -, hbytes⟩ := hmakes; rw [hbytes]; rfl
  | word mk => obtain ⟨a, -, hbytes⟩ := hmakes; rw [hbytes]; rfl

theorem encode_of_decode {bytes rest : List Byte} {i : Instr} (h : decode bytes = .ok (i, rest)) :
    bytes = encode i ++ rest := by
  rcases decode_ok_cases h with ⟨op, hform, rfl⟩ | ⟨op, mk, b, hform, rfl, rfl⟩ | ⟨op, mk, lo, hi, hform, rfl, rfl⟩
  · obtain ⟨hop, hbytes, -⟩ := opcodeForm_fits hform
    rw [encode, hop, hbytes]; rfl
  · obtain ⟨hop, hbytes, -⟩ := opcodeForm_fits hform b
    rw [encode, hop, hbytes]; rfl
  · obtain ⟨hop, hbytes, -⟩ := opcodeForm_fits hform (mkAddr hi lo)
    rw [encode, hop, hbytes, loByte_mkAddr, hiByte_mkAddr]; rfl

/-- Settles O2: each form of the opcode map fits its operation code, so what it makes encodes to the bytes it took. -/
theorem encodeOfDecode : Obligations.EncodeOfDecode := by
  unfold Obligations.EncodeOfDecode
  intro bytes i rest h
  exact ⟨encode_of_decode h, encode_length i⟩

/-- Settles O3: each word is the encoding of the instruction, operand bytes low-order first. -/
theorem decodeOfWrittenWords : Obligations.DecodeOfWrittenWords := by
  unfold Obligations.DecodeOfWrittenWords
  exact ⟨decode_encode (.ldxImm 0xFF) [], decode_encode (.ldaImm 0x9A) [], decode_encode (.ldaAbs 0x2055) [],
    decode_encode (.jmpAbs 0x3020) [], decode_encode (.ldaAbsx 0x903A) [], decode_encode .clc [],
    decode_encode .rolAcc [], decode_encode (.beq 0x06) [], decode_encode .pha [0x68]⟩

/-! ### The operation codes that Table II does not list -/

theorem opcodeForm_eq_none_iff (op : Byte) : opcodeForm op = none ↔ op ∈ unlistedCodes := by
  have table : ∀ op : Byte, (opcodeForm op).isNone = decide (op ∈ unlistedCodes) := by decide
  rw [← Option.isNone_iff_eq_none, table, decide_eq_true_iff]

theorem decode_of_form_eq_none {op : Byte} (h : opcodeForm op = none) (rest : List Byte) :
    decode (op :: rest) = .error (.unlistedOpcode op) := by simp [decode, h]

theorem step_of_run {s : State} (h : boundary (arrive s) = .run) : step s = runInstruction (arrive s) := by
  simp only [step, h]

/-- A fetch answers the first byte itself exactly where the opcode map does not list it. -/
theorem fetch_of_form_eq_none {s : State} (h : opcodeForm (busRead s s.pc).1 = none) :
    fetch s = .error (busRead s s.pc).1 := by
  unfold fetch
  simp only [h]

theorem runInstruction_of_form_eq_none {s : State} (h : opcodeForm (busRead s s.pc).1 = none) :
    runInstruction s = .refused (.unlistedOpcode (busRead s s.pc).1) := by
  simp only [runInstruction, fetch_of_form_eq_none h]

/-- Settles O4: a check of the 256 codes against the map, then the fetch, which reads the code from memory. -/
theorem unlistedCodesHaveNoMeaning : Obligations.UnlistedCodesHaveNoMeaning := by
  unfold Obligations.UnlistedCodesHaveNoMeaning
  refine ⟨opcodeForm_eq_none_iff, ?decoder, ?stepper⟩
  case decoder =>
    intro op hop rest
    exact decode_of_form_eq_none ((opcodeForm_eq_none_iff op).mpr hop) rest
  case stepper =>
    intro s hrun hmem hop
    have hread : busRead (arrive s) (arrive s).pc = (s.mem.read s.pc, arrive s) := busRead_memory hmem
    have hform : opcodeForm (busRead (arrive s) (arrive s).pc).1 = none := by
      rw [hread]
      exact (opcodeForm_eq_none_iff _).mpr hop
    rw [step_of_run hrun, runInstruction_of_form_eq_none hform, hread]

end Sys2Proof.Proofs.Encoding

/-! What every step keeps (R8, R41, R243, R303, R304): a property of one VIA that its accesses, its clock and its events
keep is kept by the whole machine; then the invariant `StateInv` and the platform. -/

namespace Sys2Proof.Proofs.Invariants

open Sys2Proof Sys2Proof.Machine

/-! ### The shift register of one VIA -/

/-- `viaOk` speaks of the mode, the count and the flag of the shift register; an operation that leaves the first two and
does not set the flag keeps it. -/
theorem viaOk_of_shifter_kept {v w : Via} (hv : viaOk v) (hacr : w.acr = v.acr)
    (hleft : w.shifter.left = v.shifter.left) (hflag : w.flag srFlag = true → v.flag srFlag = true) : viaOk w := by
  obtain ⟨hle, hoff⟩ := hv
  refine ⟨hleft ▸ hle, fun hmode => ?_⟩
  obtain ⟨hzero, hclear⟩ := hoff (hacr ▸ hmode)
  exact ⟨hleft.trans hzero, Bool.eq_false_iff.mpr fun h => by simp [hflag h] at hclear⟩

theorem viaOk_setFlag {k : Nat} (hk : k ≠ srFlag) {v : Via} (hv : viaOk v) : viaOk (v.setFlag k) :=
  viaOk_of_shifter_kept hv rfl rfl (by simp [srFlag] at hk ⊢; simp [hk])

theorem viaOk_clearFlag (k : Nat) {v : Via} (hv : viaOk v) : viaOk (v.clearFlag k) :=
  viaOk_of_shifter_kept hv rfl rfl (by simp [srFlag]; exact fun h _ => h)

theorem viaOk_setCtl (side : Side) (c : Control) {v : Via} (hv : viaOk v) : viaOk (v.setCtl side c) :=
  viaOk_of_shifter_kept hv (setCtl_acr ..) (by rw [setCtl_shifter]) (by rw [flag_setCtl]; exact id)

theorem viaOk_setPort (side : Side) (p : Port) {v : Via} (hv : viaOk v) : viaOk (v.setPort side p) :=
  viaOk_of_shifter_kept hv (setPort_acr ..) (by rw [setPort_shifter]) (by rw [flag_setPort]; exact id)

theorem viaOk_clearPortFlags (side : Side) {v : Via} (hv : viaOk v) : viaOk (v.clearPortFlags side) := by
  unfold Via.clearPortFlags
  dsimp only
  split
  · exact viaOk_clearFlag _ hv
  · exact viaOk_clearFlag _ (viaOk_clearFlag _ hv)

theorem viaOk_maybeClearPortA (d : Nat) {v : Via} (hv : viaOk v) : viaOk (v.maybeClearPortA d) := by
  have hfirst : viaOk (if Config.anyBit d then v.clearFlag (c1Flag .a) else v) := by
    split
    · exact viaOk_clearFlag _ hv
    · exact hv
  unfold Via.maybeClearPortA
  dsimp only
  split
  · exact viaOk_clearFlag _ hfirst
  · exact hfirst

theorem viaOk_startC2 (side : Side) {v : Via} (hv : viaOk v) : viaOk (v.startC2 side) := by
  rw [startC2_eq]
  exact viaOk_setCtl _ _ hv

theorem viaOk_countT2 {v : Via} (hv : viaOk v) : viaOk v.countT2 := by
  have hcount : viaOk { v with t2 := v.t2.count } := hv
  unfold Via.countT2
  dsimp only
  split
  · exact viaOk_setFlag (by decide) hcount
  · exact hcount

theorem viaOk_endPulse (side : Side) {v : Via} (hv : viaOk v) : viaOk (v.endPulse side) := by
  unfold Via.endPulse
  split
  · exact viaOk_setCtl _ _ hv
  · exact hv

theorem viaOk_tick {v : Via} (hv : viaOk v) : viaOk v.tick := by
  have hcount : viaOk { v with t1 := v.t1.tick v.freeRunning v.drivesPb7 } := hv
  unfold Via.tick
  extract_lets v1 v2 v3
  have hfirst : viaOk v2 := by
    simp only [v2]
    split
    · exact viaOk_setFlag (by decide) hcount
    · exact hcount
  have hsecond : viaOk v3 := by
    simp only [v3]
    split
    · exact hfirst
    · exact viaOk_countT2 hfirst
  exact viaOk_endPulse _ (viaOk_endPulse _ hsecond)

theorem viaOk_ticks (n : Nat) {v : Via} (hv : viaOk v) : viaOk (Via.ticks n v) := by
  induction n generalizing v with
  | zero => exact hv
  | succ n ih => exact ih (viaOk_tick hv)

/-- An access of SR starts eight shifts, none, or leaves the count, and resets the flag. -/
theorem viaOk_accessSr (d : Nat) {v : Via} (hv : viaOk v) : viaOk (v.accessSr d) := by
  obtain ⟨hle, -⟩ := hv
  constructor
  · simp only [Via.accessSr, clearFlag_shifter]
    split
    · omega
    · split
      · split <;> omega
      · omega
  · intro hmode
    have hmode' : shiftMode v.acr = 0 := hmode
    exact ⟨by simp [Via.accessSr, hmode'], by simp [Via.accessSr, srFlag]⟩

/-- A shift pulse acts in an enabled mode only, and counts down from at most eight. -/
theorem viaOk_shiftPulse (dir : ShiftDir) (d : Nat) {v : Via} (hv : viaOk v) : viaOk (v.shiftPulse dir d) := by
  have of_enabled : ∀ w : Via, w.acr = v.acr → shiftMode v.acr ≠ 0 → w.shifter.left ≤ 8 → viaOk w :=
    fun w hacr hmode hle => ⟨hle, fun h => absurd (hacr ▸ h) hmode⟩
  have hle : v.shifter.left ≤ 8 := hv.1
  unfold Via.shiftPulse
  extract_lets m left moved v1
  have hleft : left ≤ 8 := by
    simp only [left]
    split <;> omega
  split
  case isTrue => exact hv
  case isFalse hrun =>
    have hmode : shiftMode v.acr ≠ 0 := fun h => hrun (by simp [m, h])
    split
    · have hv1 : v1.shifter.left ≤ 8 := by
        simp only [v1]
        split <;> omega
      split
      · exact of_enabled _ rfl hmode hv1
      · exact of_enabled _ rfl hmode hv1
    · exact of_enabled _ rfl hmode (by simp only; omega)

theorem viaOk_c1Event (side : Side) (high : Bool) {v : Via} (hv : viaOk v) : viaOk (v.c1Event side high) := by
  cases h : ControlLineOne.c1Active side high v with
  | false =>
    rw [ControlLineOne.c1Event_of_inactive h]
    exact viaOk_setCtl _ _ hv
  | true =>
    rw [ControlLineOne.c1Event_of_active h]
    exact viaOk_setCtl _ _ (viaOk_setPort _ _ (viaOk_setFlag (by cases side <;> decide) hv))

theorem viaOk_c2Event (side : Side) (high : Bool) {v : Via} (hv : viaOk v) : viaOk (v.c2Event side high) := by
  unfold Via.c2Event
  dsimp only
  split
  · exact viaOk_setFlag (by cases side <;> decide) (viaOk_setCtl _ _ hv)
  · exact viaOk_setCtl _ _ hv

theorem viaOk_event (dir : ShiftDir) (d : Nat) (e : ViaEvent) {v : Via} (hv : viaOk v) : viaOk (v.event dir d e) := by
  cases e with
  | port side forced level => exact viaOk_setPort _ _ hv
  | c1 side high => exact viaOk_c1Event _ _ hv
  | c2 side high => exact viaOk_c2Event _ _ hv
  | pb6Pulse =>
    dsimp only [Via.event, Via.pb6Pulse]
    split
    · exact viaOk_countT2 hv
    · exact hv
  | shiftPulse => exact viaOk_shiftPulse _ _ hv

/-- A write of ACR that leaves the shift register disabled, or disables it, leaves no shifts and no flag. -/
theorem viaOk_writeAcr (acr : Byte) (d : Nat) {v : Via} (hv : viaOk v) : viaOk (v.writeAcr acr d) := by
  obtain ⟨hle, -⟩ := hv
  have hcount : shiftsAfterModeChange (shiftMode v.acr) (shiftMode acr) d v.shifter.left ≤ 8 := by
    unfold shiftsAfterModeChange
    split
    · omega
    · split
      · exact hle
      · exact Nat.le_of_lt_succ (Nat.mod_lt _ (by decide))
  by_cases hmode : shiftMode acr = 0
  · simp only [Via.writeAcr, hmode, beq_self_eq_true, if_true]
    exact ⟨by simp [shiftsAfterModeChange], fun _ => ⟨by simp [shiftsAfterModeChange], by simp [srFlag]⟩⟩
  · simp only [Via.writeAcr, beq_iff_eq, hmode, if_false]
    exact ⟨hcount, fun h => absurd h hmode⟩

theorem viaOk_readEffect (r : ViaReg) (d : Nat) {v : Via} (hv : viaOk v) : viaOk (v.readEffect r d) := by
  cases r with
  | orb => exact viaOk_setPort _ _ (viaOk_clearPortFlags _ hv)
  | ora => exact viaOk_setPort _ _ (viaOk_startC2 _ (viaOk_clearPortFlags _ hv))
  | oraNoHandshake => exact viaOk_setPort _ _ (viaOk_maybeClearPortA _ hv)
  | t1cL | t2cL => exact viaOk_clearFlag _ hv
  | sr => exact viaOk_accessSr _ hv
  | _ => exact hv

theorem viaOk_write (r : ViaReg) (b : Byte) (d : Nat) {v : Via} (hv : viaOk v) : viaOk (v.write r b d) := by
  have same : ∀ w : Via, w.acr = v.acr → w.shifter.left = v.shifter.left → w.ifr = v.ifr → viaOk w :=
    fun w hacr hleft hifr => viaOk_of_shifter_kept hv hacr hleft (by simp only [Via.flag, hifr]; exact id)
  cases r with
  | orb | ora => exact viaOk_setPort _ _ (viaOk_startC2 _ (viaOk_clearPortFlags _ hv))
  | oraNoHandshake => exact viaOk_setPort _ _ (viaOk_maybeClearPortA _ hv)
  | t1cH | t2cH => exact viaOk_clearFlag _ (same _ rfl rfl rfl)
  | sr => exact viaOk_accessSr _ (same _ rfl rfl rfl)
  | acr => exact viaOk_writeAcr _ _ hv
  | ifr =>
    refine viaOk_of_shifter_kept hv rfl rfl fun h => ?_
    simp only [Via.write, Via.flag, BitVec.getLsbD_and, Bool.and_eq_true] at h
    exact h.1
  | _ => exact same _ rfl rfl rfl

theorem viaOk_reset (d : Nat) (v : Via) : viaOk (v.reset d) :=
  ⟨Nat.zero_le 8, fun _ => ⟨rfl, by simp [Via.reset, Via.flag]⟩⟩

/-! ### The lines and devices -/

/-- A property of each VIA on its own is kept by the whole list of them. -/
structure ViaClosed (P : Via → Prop) : Prop where
  tick : ∀ n v, P v → P (Via.ticks n v)
  event : ∀ dir d e v, P v → P (v.event dir d e)
  readEffect : ∀ r d v, P v → P (v.readEffect r d)
  write : ∀ r b d v, P v → P (v.write r b d)

theorem viaOk_closed : ViaClosed viaOk where
  tick n _ := viaOk_ticks n
  event dir d e _ := viaOk_event dir d e
  readEffect r d _ := viaOk_readEffect r d
  write r b d _ := viaOk_write r b d

/-- Every VIA has the property, and while RES is low the reset sequence is due (R243). -/
def IoOk (P : Via → Prop) (io : Io) : Prop :=
  (∀ v ∈ io.vias, P v) ∧ (io.resLine = false → io.resetDue = true)

variable {P : Via → Prop}

theorem forall_modifyAt {f : Via → Via} (hf : ∀ v, P v → P (f v)) (k : Nat) {vs : List Via} (h : ∀ v ∈ vs, P v) :
    ∀ v ∈ modifyAt k f vs, P v := by
  induction vs generalizing k with
  | nil => simp [modifyAt]
  | cons u us ih =>
    rw [List.forall_mem_cons] at h
    cases k with
    | zero => exact List.forall_mem_cons.mpr ⟨hf u h.1, h.2⟩
    | succ k => exact List.forall_mem_cons.mpr ⟨h.1, ih k h.2⟩

theorem forall_viasRead (hP : ViaClosed P) (a : Addr) (d : Nat) {vs : List Via} (h : ∀ v ∈ vs, P v) :
    ∀ v ∈ (viasRead a d vs).2, P v := by
  induction vs with
  | nil => simp [viasRead]
  | cons u us ih =>
    rw [List.forall_mem_cons] at h
    simp only [viasRead]
    split
    · exact List.forall_mem_cons.mpr ⟨hP.readEffect _ _ _ h.1, h.2⟩
    · exact List.forall_mem_cons.mpr ⟨h.1, ih h.2⟩

theorem forall_viasWrite (hP : ViaClosed P) (a : Addr) (b : Byte) (d : Nat) {vs : List Via} (h : ∀ v ∈ vs, P v) :
    ∀ v ∈ viasWrite a b d vs, P v := by
  induction vs with
  | nil => simp [viasWrite]
  | cons u us ih =>
    rw [List.forall_mem_cons] at h
    simp only [viasWrite]
    split
    · exact List.forall_mem_cons.mpr ⟨hP.write _ _ _ _ h.1, h.2⟩
    · exact List.forall_mem_cons.mpr ⟨h.1, ih h.2⟩

theorem ioOk_tick (hP : ViaClosed P) (n : Nat) {io : Io} (h : IoOk P io) : IoOk P (io.tick n) :=
  ⟨List.forall_mem_map.mpr fun v hv => hP.tick n v (h.1 v hv), h.2⟩

theorem ioOk_event (hP : ViaClosed P) (cfg : Config) (e : EnvEvent) {io : Io} (h : IoOk P io) :
    IoOk P (io.event cfg e) := by
  cases e with
  | irq high => exact h
  | nmi high => exact h
  | res high =>
    refine ⟨h.1, fun hlow => ?_⟩
    have hhigh : high = false := hlow
    simp [Io.event, Io.resLevel, hhigh]
  | clock n =>
    simp only [Io.event]
    split
    · exact ioOk_tick hP n h
    · exact h
  | via k e => exact ⟨forall_modifyAt (fun v => hP.event _ _ e v) k h.1, h.2⟩

theorem ioOk_move (hP : ViaClosed P) (cfg : Config) {io : Io} (h : IoOk P io) : IoOk P (io.move cfg) := by
  unfold Io.move
  split
  · exact h
  · exact List.foldlRecOn (motive := IoOk P) _ _ h fun j hj e _ => ioOk_event hP cfg e hj

theorem ioOk_settle (hP : ViaClosed P) (cfg : Config) {io : Io} (h : IoOk P io) : IoOk P (io.settle cfg) := by
  simp only [Io.settle]
  split
  · exact ioOk_move hP cfg h
  · exact ioOk_tick hP _ (io := { io.move cfg with owed := _ }) (ioOk_move hP cfg h)

theorem ioOk_readReg (hP : ViaClosed P) (cfg : Config) (a : Addr) {io : Io} (h : IoOk P io) :
    IoOk P (io.readReg cfg a).2 :=
  ⟨forall_viasRead hP _ _ (ioOk_settle hP cfg h).1, (ioOk_settle hP cfg h).2⟩

theorem ioOk_writeReg (hP : ViaClosed P) (cfg : Config) (a : Addr) (b : Byte) {io : Io} (h : IoOk P io) :
    IoOk P (io.writeReg cfg a b) :=
  ⟨forall_viasWrite hP _ _ _ (ioOk_settle hP cfg h).1, (ioOk_settle hP cfg h).2⟩

/-- What an access keeps of the lines and devices, every bus access keeps. -/
theorem busRead_keeps_io {R : Io → Prop} (s : State) (a : Addr) (hreg : R s.io → R (s.io.readReg s.cfg a).2)
    (hdraw : R s.io → R (s.io.draw 1)) (h : R s.io) : R (busRead s a).2.io := by
  unfold busRead
  split
  · exact hreg h
  · split
    · exact h
    · exact h
    · exact hdraw h

theorem busWrite_keeps_io {R : Io → Prop} (s : State) (a : Addr) (b : Byte)
    (hreg : R s.io → R (s.io.writeReg s.cfg a b)) (h : R s.io) : R (busWrite s a b).io := by
  unfold busWrite
  split
  · exact hreg h
  · split <;> exact h

/-! ### The invariant -/

/-- What memory, lines and devices keep from access to access; `StateInv` adds that no clock cycle is owed, which is
true between steps only. -/
def CoreInv (s : State) : Prop := s.mem.wf ∧ IoOk viaOk s.io

theorem coreInv_closed : Closed CoreInv where
  read s a h := by
    refine ⟨by rw [busRead_mem]; exact h.1, ?_⟩
    exact busRead_keeps_io s a (ioOk_readReg viaOk_closed _ _) id h.2
  write s a b h := by
    refine ⟨?_, busWrite_keeps_io s a b (ioOk_writeReg viaOk_closed _ _ _) h.2⟩
    rw [busWrite_mem]
    split
    · exact Memory.wf_write h.1 a b
    · exact h.1
  draw _ _ h := h
  registers h t hmem hio _ := by
    rw [CoreInv, hmem, hio]
    exact h

theorem event_owed (cfg : Config) (io : Io) (e : EnvEvent) : (io.event cfg e).owed = io.owed := by
  cases e with
  | clock n => simp only [Io.event]; split <;> rfl
  | _ => rfl

theorem move_owed (cfg : Config) (io : Io) : (io.move cfg).owed = io.owed := by
  unfold Io.move
  split
  · rfl
  · exact List.foldlRecOn (motive := fun j : Io => j.owed = io.owed) _ _ rfl
      fun j hj e _ => (event_owed cfg j e).trans hj

theorem settle_owed_of_zero (cfg : Config) {io : Io} (h : io.owed = 0) : (io.settle cfg).owed = 0 := by
  simp only [Io.settle]
  split
  · exact (move_owed cfg io).trans h
  · simp [move_owed, h]

/-- A VIA access lets no more than the owed cycles pass: where none is owed, none is owed after it. -/
theorem owedZero_closed : Closed (fun s => s.io.owed = 0) where
  read s a := busRead_keeps_io (R := fun io => io.owed = 0) s a (settle_owed_of_zero _) id
  write s a b := busWrite_keeps_io (R := fun io => io.owed = 0) s a b (settle_owed_of_zero _)
  draw _ _ h := h
  registers h t _ hio _ := by rw [hio]; exact h

theorem stateInv_iff (s : State) : StateInv s ↔ CoreInv s ∧ s.io.owed = 0 := by
  simp only [StateInv, CoreInv, IoOk]
  tauto

theorem arrive_stateInv {s : State} (h : StateInv s) : StateInv (arrive s) := by
  rw [stateInv_iff] at h ⊢
  exact ⟨⟨h.1.1, ioOk_move viaOk_closed s.cfg h.1.2⟩, (move_owed _ _).trans h.2⟩

theorem sequenceClock_stateInv {s : State} (h : StateInv s) : StateInv (sequenceClock s) := by
  rw [stateInv_iff] at h ⊢
  unfold sequenceClock
  split
  · exact h
  · exact ⟨⟨h.1.1, ioOk_tick viaOk_closed _ h.1.2⟩, h.2⟩

theorem enterInterrupt_stateInv (brk : Bool) (ret vector : Addr) {s : State} (h : StateInv s) :
    StateInv (enterInterrupt brk ret vector s) := by
  rw [stateInv_iff] at h ⊢
  exact ⟨coreInv_closed.enterInterrupt brk ret vector h.1, owedZero_closed.enterInterrupt brk ret vector h.2⟩

theorem forall_resetVias {Q : Via → Prop} (hQ : ∀ d (v : Via), Q (v.reset d)) (d : Nat) (vs : List Via) :
    ∀ v ∈ resetVias d vs, Q v := by
  induction vs generalizing d with
  | nil => simp [resetVias]
  | cons v vs ih => exact List.forall_mem_cons.mpr ⟨hQ d v, ih _⟩

/-- The reset sequence is made while RES is high only, for it leaves no reset due. -/
theorem resetSequence_stateInv {s : State} (h : StateInv s) (hres : s.io.resLine = true) :
    StateInv (resetSequence s) := by
  rw [stateInv_iff] at h ⊢
  obtain ⟨⟨hmem, -⟩, howed⟩ := h
  have hio : IoOk viaOk s.io.afterReset := ⟨forall_resetVias viaOk_reset _ _, fun hlow => by
    have : s.io.resLine = false := hlow
    simp [hres] at this⟩
  unfold resetSequence
  exact ⟨coreInv_closed.jumpThrough _ ⟨hmem, hio⟩, owedZero_closed.jumpThrough _ howed⟩

/-! ### A step that runs an instruction -/

/-- The state after a fetch is that after one, two or three bus reads, so a closed property holds of it. -/
theorem fetch_closed {Q : State → Prop} (hQ : Closed Q) {s t : State} {i : Instr} (h : Q s)
    (hf : fetch s = .ok (i, t)) : Q t := by
  unfold fetch at hf
  dsimp only at hf
  split at hf
  · cases hf
  · cases hf; exact hQ.read _ _ h
  · cases hf; exact hQ.read _ _ (hQ.read _ _ h)
  · cases hf; exact hQ.read _ _ (hQ.read _ _ (hQ.read _ _ h))

/-- A step that runs an instruction and has a next state fetched an instruction that has one. -/
theorem runInstruction_next {s t : State} (h : runInstruction s = .next t) :
    ∃ i s1 u, fetch s = .ok (i, s1) ∧ exec i (ready i s1) = .next u ∧ t = settleClock u := by
  unfold runInstruction at h
  split at h
  case h_1 i s1 hfetch =>
    cases hexec : exec i (ready i s1) with
    | next u =>
      rw [hexec] at h
      cases h
      exact ⟨i, s1, u, hfetch, hexec, rfl⟩
    | fault r => rw [hexec] at h; cases h
    | refused r => rw [hexec] at h; cases h
  case h_2 => cases h

theorem charge_coreInv (n : Nat) {s : State} (h : CoreInv s) : CoreInv (charge n s) := by
  unfold charge
  split <;> exact h

theorem settleClock_coreInv {s : State} (h : CoreInv s) : CoreInv (settleClock s) := by
  unfold settleClock
  split
  · exact h
  · exact ⟨h.1, ioOk_tick viaOk_closed _ (io := { s.io with owed := 0 }) h.2⟩

theorem closed_cfg (cfg : Config) : Closed (fun s => s.cfg = cfg) where
  read s a h := (busRead_cfg s a).trans h
  write s a b h := (busWrite_cfg s a b).trans h
  draw _ _ h := h
  registers h _ _ _ hcfg := hcfg.trans h

theorem runInstruction_stateInv {s t : State} (h : StateInv s) (hrun : runInstruction s = .next t) : StateInv t := by
  rw [stateInv_iff] at h ⊢
  obtain ⟨i, s1, u, hfetch, hexec, rfl⟩ := runInstruction_next hrun
  have hcore : CoreInv u :=
    coreInv_closed.exec i (charge_coreInv _ (fetch_closed coreInv_closed h.1 hfetch)) hexec
  refine ⟨settleClock_coreInv hcore, ?_⟩
  have hcfg : u.cfg = s1.cfg := (closed_cfg s1.cfg).exec i (charge_cfg ..) hexec
  unfold settleClock
  split
  case h_1 hfree =>
    have hready : (ready i s1).io = s1.io := by simp only [ready, charge, ← hcfg, hfree]
    exact owedZero_closed.exec i (hready ▸ fetch_closed owedZero_closed h.2 hfetch) hexec
  case h_2 => rfl

/-- A step with a next state is one of the five of R243. -/
theorem step_next_cases {s t : State} (h : step s = .next t) :
    t = arrive s ∨
    (arrive s).io.resLine = true ∧ t = sequenceClock (resetSequence (arrive s)) ∨
    t = sequenceClock (nmiSequence (arrive s)) ∨ t = sequenceClock (irqSequence (arrive s)) ∨
    runInstruction (arrive s) = .next t := by
  unfold step at h
  split at h
  case h_1 => cases h; exact .inl rfl
  case h_2 hreset =>
    cases h
    refine .inr (.inl ⟨?_, rfl⟩)
    cases hres : (arrive s).io.resLine with
    | true => rfl
    | false => simp only [boundary, hres, Bool.not_false, if_true, reduceCtorEq] at hreset
  case h_3 => cases h; exact .inr (.inr (.inl rfl))
  case h_4 => cases h; exact .inr (.inr (.inr (.inl rfl)))
  case h_5 => exact .inr (.inr (.inr (.inr h)))

/-- Settles O10: the part of the invariant that every bus access keeps (`coreInv_closed`), with the cycles owed, which
only a charged instruction raises and the end of its step pays. -/
theorem stepKeepsInvariant : Obligations.StepKeepsInvariant := by
  unfold Obligations.StepKeepsInvariant
  intro s t h hstep
  have harrive : StateInv (arrive s) := arrive_stateInv h
  rcases step_next_cases hstep with rfl | ⟨hres, rfl⟩ | rfl | rfl | hrun
  · exact harrive
  · exact sequenceClock_stateInv (resetSequence_stateInv harrive hres)
  · exact sequenceClock_stateInv (enterInterrupt_stateInv _ _ _ (s := { arrive s with io := _ }) harrive)
  · exact sequenceClock_stateInv (enterInterrupt_stateInv _ _ _ harrive)
  · exact runInstruction_stateInv harrive hrun

/-- Settles O11: empty memory is canonical, and the one VIA has a disabled shift register. -/
theorem resetMeetsInvariant : Obligations.ResetMeetsInvariant := by
  unfold Obligations.ResetMeetsInvariant
  exact ⟨Memory.wf_reset, List.forall_mem_singleton.mpr ⟨Nat.zero_le 8, fun _ => ⟨rfl, rfl⟩⟩, nofun, rfl⟩

/-! ### The platform -/

/-- The parameters and the addresses of the VIAs are those given. -/
def OnPlatform (cfg : Config) (bs : List Addr) (s : State) : Prop := s.cfg = cfg ∧ bases s = bs

variable {cfg : Config} {bs : List Addr}

theorem onPlatform_closed : Closed (OnPlatform cfg bs) where
  read s a h := ⟨(busRead_cfg s a).trans h.1, (busRead_bases s a).trans h.2⟩
  write s a b h := ⟨(busWrite_cfg s a b).trans h.1, (busWrite_bases s a b).trans h.2⟩
  draw _ _ h := h
  registers h _ _ hio hcfg := ⟨hcfg.trans h.1, (congrArg (fun io => io.vias.map Via.base) hio).trans h.2⟩

theorem charge_onPlatform (n : Nat) {s : State} (h : OnPlatform cfg bs s) : OnPlatform cfg bs (charge n s) := by
  unfold charge
  split <;> exact h

theorem settleClock_onPlatform {s : State} (h : OnPlatform cfg bs s) : OnPlatform cfg bs (settleClock s) := by
  unfold settleClock
  split
  · exact h
  · exact ⟨h.1, (ioTick_bases _ { s.io with owed := 0 }).trans h.2⟩

theorem sequenceClock_onPlatform {s : State} (h : OnPlatform cfg bs s) : OnPlatform cfg bs (sequenceClock s) := by
  unfold sequenceClock
  split
  · exact h
  · exact ⟨h.1, (ioTick_bases _ s.io).trans h.2⟩

theorem resetSequence_onPlatform {s : State} (h : OnPlatform cfg bs s) : OnPlatform cfg bs (resetSequence s) := by
  unfold resetSequence
  exact onPlatform_closed.jumpThrough _ ⟨h.1, (resetVias_bases _ s.io.vias).trans h.2⟩

/-- Settles O12: every bus access keeps the parameters and the addresses, and so do the clock and a VIA reset. -/
theorem stepKeepsThePlatform : Obligations.StepKeepsThePlatform := by
  unfold Obligations.StepKeepsThePlatform
  intro s t hstep
  have harrive : OnPlatform s.cfg (bases s) (arrive s) := ⟨rfl, move_bases s.cfg s.io⟩
  rcases step_next_cases hstep with rfl | ⟨-, rfl⟩ | rfl | rfl | hrun
  · exact harrive
  · exact sequenceClock_onPlatform (resetSequence_onPlatform harrive)
  · exact sequenceClock_onPlatform
      (onPlatform_closed.enterInterrupt _ _ _ (s := { arrive s with io := _ }) harrive)
  · exact sequenceClock_onPlatform (onPlatform_closed.enterInterrupt _ _ _ harrive)
  · obtain ⟨i, s1, u, hfetch, hexec, rfl⟩ := runInstruction_next hrun
    have hready := charge_onPlatform (instrCycles i s1) (fetch_closed onPlatform_closed harrive hfetch)
    exact settleClock_onPlatform (onPlatform_closed.exec i hready hexec)

end Sys2Proof.Proofs.Invariants

/-! Addressing and memory (R56, R57, R60, R83, R87 to R95): the effective address of each mode as a number, and what a
bus access does at an address of each kind. -/

namespace Sys2Proof.Proofs.Addressing

open Sys2Proof Sys2Proof.Machine

/-! ### Effective addresses without a pointer -/

theorem zext_add_toNat (b r : Byte) : (zext (b + r)).toNat = (b.toNat + r.toNat) % 256 := by
  rw [zext_toNat, BitVec.toNat_add]

theorem add_zext_toNat (a : Addr) (r : Byte) : (a + zext r).toNat = (a.toNat + r.toNat) % 65536 := by
  rw [BitVec.toNat_add, zext_toNat]

/-- Forming an indexed address is without effect where neither it nor its uncorrected form is at a VIA. -/
theorem indexed_snd_of_unclaimed {base ea : Addr} {s : State}
    (h : ∀ a ∈ [uncorrected base ea, ea], s.io.claims a = false) : (indexed base ea s).2 = s := by
  simp only [List.forall_mem_cons] at h
  obtain ⟨huncorrected, hea, -⟩ := h
  rw [indexed_unclaimed hea huncorrected]

/-- Settles O5: the sums of `Place.ea` as numbers, and the accesses that an index at a VIA allows. -/
theorem effectiveAddresses : Obligations.EffectiveAddresses := by
  unfold Obligations.EffectiveAddresses
  intro s zp addr
  refine ⟨zext_toNat zp, zext_add_toNat zp s.x, zext_add_toNat zp s.y, rfl, add_zext_toNat addr s.x,
    add_zext_toNat addr s.y, rfl, rfl, ?_⟩
  simp only [List.forall_mem_cons]
  exact ⟨⟨indexed_snd_of_unclaimed, ea_state _ s⟩, ⟨indexed_snd_of_unclaimed, ea_state _ s⟩,
    ⟨indexed_snd_of_unclaimed, ea_state _ s⟩, ⟨indexed_snd_of_unclaimed, ea_state _ s⟩, List.forall_mem_nil _⟩

/-! ### Effective addresses through a pointer on page $00 -/

theorem readPointer_memory {s : State} {b : Byte} (hlo : s.isMemory (zext b) = true)
    (hhi : s.isMemory (zext (b + 1)) = true) : readPointer s b = (peekPointer s b, s) :=
  busReadPair_memory hlo hhi

theorem peekPointer_toNat (s : State) (b : Byte) :
    (peekPointer s b).toNat = (s.mem.read (zext b)).toNat + 256 * (s.mem.read (zext (b + 1))).toNat := by
  rw [peekPointer, mkAddr_toNat]
  omega

/-- Settles O6: where the pointer is memory, reading it changes nothing, so that both addresses start from what memory
holds there, and only an access at a VIA could follow. -/
theorem pointerAddresses : Obligations.PointerAddresses := by
  unfold Obligations.PointerAddresses
  intro s zp
  constructor
  · intro hlo hhi
    have hea : (Place.indx zp).ea s = indexed (peekPointer s (zp + s.x)) (peekPointer s (zp + s.x)) s := by
      simp only [Place.ea, readPointer_memory hlo hhi]
    rw [hea]
    refine ⟨peekPointer_toNat s (zp + s.x), fun h => indexed_snd_of_unclaimed fun a ha => h a ?_⟩
    simp only [placeAccesses, hea, indexed_fst]
    exact List.mem_cons_of_mem _ (List.mem_cons_of_mem _ ha)
  · intro hlo hhi
    have hpointer : readPointer s zp = (peekPointer s zp, s) := readPointer_memory hlo hhi
    have hea : (Place.indy zp).ea s = indexed (peekPointer s zp) (peekPointer s zp + zext s.y) s := by
      simp only [Place.ea, hpointer]
    rw [hea]
    refine ⟨?_, fun h => indexed_snd_of_unclaimed fun a ha => h a ?_⟩
    · rw [indexed_fst, add_zext_toNat, peekPointer_toNat]
    · simp only [placeAccesses, hea, hpointer, indexed_fst]
      exact List.mem_cons_of_mem _ (List.mem_cons_of_mem _ ha)

/-! ### Bus accesses -/

theorem operandRead_memory {p : Place} {s : State} (hea : (p.ea s).2 = s) (hmem : s.isMemory (p.ea s).1 = true) :
    (Operand.mem p).read s = (s.mem.read (p.ea s).1, s) := by
  rw [Operand.read, hea, busRead_memory hmem]

theorem busRead_busWrite_ram {s : State} {a : Addr} (h : s.isRam a = true) (b : Byte) :
    busRead (busWrite s a b) a = (b, busWrite s a b) := by
  rw [busRead_memory (by rw [isMemory_busWrite]; exact isMemory_of_isRam h), busWrite_mem, if_pos h,
    Memory.read_write_same]

/-- R60, D18: a write to ROM, or to an address with nothing attached, is ignored. -/
theorem busWrite_ignored {s : State} {a : Addr} (hvia : s.io.claims a = false) (hram : s.isRam a = false) (b : Byte) :
    busWrite s a b = s := by
  rw [busWrite_state, busWrite_not_ram hram, busWrite_unclaimed hvia]

theorem busWrite_wf {s : State} (h : s.mem.wf) (a : Addr) (b : Byte) : (busWrite s a b).mem.wf := by
  rw [busWrite_mem]
  split
  · exact Memory.wf_write h a b
  · exact h

/-- Settles O7: the cases of a bus access by what answers at the address. -/
theorem memoryAccesses : Obligations.MemoryAccesses := by
  unfold Obligations.MemoryAccesses
  exact ⟨fun _ _ => rfl, fun _ _ hea hmem => operandRead_memory hea hmem, fun s a => ⟨_, busRead_state s a⟩,
    fun s a b => ⟨fun h => busRead_busWrite_ram h b, fun _ h => busWrite_read_other s b h,
      fun hvia hram => busWrite_ignored hvia hram b, fun h => busWrite_wf h a b⟩,
    fun w a s => ⟨fun h => unlistedAccesses_unclaimed h w, unlistedAccesses_state w a s⟩⟩

end Sys2Proof.Proofs.Addressing

/-! The input lines, the NMI latch and the due reset (R191, R245, R340): what an environment that does nothing leaves
as it was, and what each of its events does. -/

namespace Sys2Proof.Proofs.Lines

open Sys2Proof Sys2Proof.Machine
open Sys2Proof.Proofs.Invariants (busRead_keeps_io busWrite_keeps_io)

/-- The three input lines, the NMI latch and the due reset are those of `io`. -/
def SameLines (io j : Io) : Prop :=
  j.nmiPending = io.nmiPending ∧ j.resetDue = io.resetDue ∧ j.irqLine = io.irqLine ∧ j.nmiLine = io.nmiLine ∧
  j.resLine = io.resLine

theorem sameLines_refl (io : Io) : SameLines io io := ⟨rfl, rfl, rfl, rfl, rfl⟩

/-- The environment does nothing, and the lines are those of `io`. -/
def Idle (io j : Io) : Prop := j.env = [] ∧ SameLines io j

theorem move_of_env_nil (cfg : Config) {io : Io} (h : io.env = []) : io.move cfg = io := by
  simp only [Io.move, h]

theorem settle_idle (cfg : Config) {io j : Io} (h : Idle io j) : Idle io (j.settle cfg) := by
  simp only [Io.settle, move_of_env_nil cfg h.1]
  split <;> exact h

/-- With an idle environment no access and no free value moves a line. -/
theorem idle_closed (io : Io) : Closed (fun s => Idle io s.io) where
  read s a := busRead_keeps_io s a (settle_idle s.cfg) id
  write s a b := busWrite_keeps_io s a b (settle_idle s.cfg)
  draw _ _ h := h
  registers h _ _ hio _ := by rw [hio]; exact h

theorem exec_sameLines {i : Instr} {s t : State} (henv : s.io.env = []) (h : exec i s = .next t) :
    SameLines s.io t.io :=
  ((idle_closed s.io).exec i ⟨henv, sameLines_refl s.io⟩ h).2

/-! ### The environment -/

theorem arrive_of_env_nil {s : State} (h : s.io.env = []) : arrive s = s := by
  rw [arrive, move_of_env_nil s.cfg h]

theorem arrive_of_env_cons {s : State} {es : List EnvEvent} {rest : List (List EnvEvent)} (h : s.io.env = es :: rest) :
    arrive s = { s with io := es.foldl (Io.event s.cfg) { s.io with env := rest } } := by
  simp only [arrive, Io.move, h]

/-- The two first levels of a list are high and low, or such a pair comes later. -/
theorem exists_falling_cons_cons (x y : Bool) (ls : List Bool) :
    (∃ before after, x :: y :: ls = before ++ true :: false :: after) ↔
      (x = true ∧ y = false) ∨ ∃ before after, y :: ls = before ++ true :: false :: after := by
  constructor
  · rintro ⟨before, after, h⟩
    cases before with
    | nil => cases h; exact .inl ⟨rfl, rfl⟩
    | cons z before =>
      rw [List.cons_append, List.cons.injEq] at h
      exact .inr ⟨before, after, h.2⟩
  · rintro (⟨rfl, rfl⟩ | ⟨before, after, h⟩)
    · exact ⟨[], ls, rfl⟩
    · exact ⟨x :: before, after, by rw [h]; rfl⟩

/-- R245, D21: after any levels on NMI the latch is set exactly when it was, or when NMI fell at least once. -/
theorem nmiPending_after_levels (cfg : Config) (io : Io) (levels : List Bool) :
    (levels.foldl (fun j high => j.event cfg (.nmi high)) io).nmiPending = true ↔
      io.nmiPending = true ∨ ∃ before after, io.nmiLine :: levels = before ++ true :: false :: after := by
  induction levels generalizing io with
  | nil =>
    have single : ¬ ∃ before after, [io.nmiLine] = before ++ true :: false :: after := by
      rintro ⟨before, after, h⟩
      have := congrArg List.length h
      simp only [List.length_append, List.length_cons, List.length_nil] at this
      omega
    simp only [List.foldl_nil, single, or_false]
  | cons high levels ih =>
    have hlatch : (io.event cfg (.nmi high)).nmiPending = true ↔
        io.nmiPending = true ∨ (io.nmiLine = true ∧ high = false) := by
      simp [Io.event, Io.nmiLevel]
    rw [List.foldl_cons, ih, hlatch, exists_falling_cons_cons, or_assoc]
    rfl

theorem event_sameLines (cfg : Config) (io : Io) {e : EnvEvent}
    (h : ∀ high, e ≠ .nmi high ∧ e ≠ .res high ∧ e ≠ .irq high) : SameLines io (io.event cfg e) := by
  cases e with
  | irq high => exact absurd rfl (h high).2.2
  | nmi high => exact absurd rfl (h high).1
  | res high => exact absurd rfl (h high).2.1
  | clock n =>
    simp only [Io.event]
    split <;> exact sameLines_refl io
  | via k e => exact sameLines_refl io

/-- Settles O14: with nothing left in its script the environment is idle at every access; otherwise its events are
those of `Io.event`, of which three move a line. -/
theorem instructionsLeaveTheLines : Obligations.InstructionsLeaveTheLines := by
  unfold Obligations.InstructionsLeaveTheLines
  exact ⟨fun _ _ _ henv h => exec_sameLines henv h,
    fun _ => ⟨arrive_of_env_nil, fun _ _ => arrive_of_env_cons⟩,
    fun _ _ _ => ⟨rfl, rfl, rfl⟩,
    nmiPending_after_levels,
    fun cfg io _ h => event_sameLines cfg io h⟩

end Sys2Proof.Proofs.Lines

/-! The stack, subroutines and interrupts (R170, R171, R180, R186, R220 to R227, R247 to R255): each shared sequence of
pushes and pulls as one update of the state, in general and where the stack is memory. -/

namespace Sys2Proof.Proofs.StackAndInterrupts

open Sys2Proof Sys2Proof.Machine

/-! ### Addresses on the stack page -/

theorem sp_ne_sub_one (x : Byte) : x ≠ x - 1 := by bv_omega

theorem sp_ne_sub_two (x : Byte) : x ≠ x - 2 := by bv_omega

theorem sp_sub_three (x : Byte) : x - 2 - 1 = x - 3 := by bv_omega

theorem sp_add_three (x : Byte) : x + 1 + 2 = x + 3 := by bv_omega

/-! ### Push and pull -/

theorem push_keeps (b : Byte) (s : State) : MemoryKeptBut [stackAddr s.sp] s (push b s) := by
  intro c hc
  exact push_read_other b s (by simpa using hc)

theorem pull_push {s : State} (h : s.isRam (stackAddr s.sp) = true) (b : Byte) :
    pull (push b s) = (b, { s with mem := s.mem.write (stackAddr s.sp) b }) := by
  have hback : s.sp - 1 + 1 = s.sp := by bv_omega
  rw [pull_memory (by rw [isMemory_push, push_sp, hback]; exact isMemory_of_isRam h), push_ram h]
  simp only [hback, Memory.read_write_same]

/-- Settles O37: the byte goes to `$0100 + SP`, and the pull reads there again. -/
theorem pullUndoesPush : Obligations.PullUndoesPush := by
  unfold Obligations.PullUndoesPush
  intro b s
  refine ⟨stackAddr_toNat s.sp, rfl, ?_, ?_, fun h => pull_push h b⟩
  · rw [push_sp]; bv_omega
  · rw [pull_sp]; bv_omega

theorem exec_pha (s : State) : exec .pha s = .next ((push s.a s).advance 1) := rfl

theorem exec_php (s : State) : exec .php s = .next ((pushStatus false s).advance 1) := rfl

theorem exec_pla (s : State) : exec .pla s = .next (pullA s) := rfl

theorem exec_plp (s : State) : exec .plp s = .next ((pullStatus s).advance 1) := rfl

theorem pushStatus_read_other (brk : Bool) (s : State) {c : Addr} (h : c ≠ stackAddr s.sp) :
    (pushStatus brk s).mem.read c = s.mem.read c :=
  push_read_other _ { s with io := s.io.draw 2 } h

/-- R26: where the flags stand in the byte of `P`. -/
theorem pack_bits (x y : Bool) (f : Flags) :
    (f.pack x y).getLsbD 7 = f.n ∧ (f.pack x y).getLsbD 6 = f.v ∧ (f.pack x y).getLsbD 4 = y ∧
    (f.pack x y).getLsbD 3 = f.d ∧ (f.pack x y).getLsbD 2 = f.i ∧ (f.pack x y).getLsbD 1 = f.z ∧
    (f.pack x y).getLsbD 0 = f.c := by
  obtain ⟨n, v, b, d, i, z, c⟩ := f
  revert x y n v b d i z c
  decide

theorem pushedBreak_latch {s : State} (h : s.cfg.bModel = .latch) (brk : Bool) :
    pushedBreak s brk = (brk || s.p.b) := by
  simp only [pushedBreak, h]

/-- Settles O35: each is one push and one byte of advance. -/
theorem pushesWriteOneByte : Obligations.PushesWriteOneByte := by
  unfold Obligations.PushesWriteOneByte
  intro s
  refine ⟨⟨_, exec_pha s, ?phaState, push_keeps s.a s, ?phaRam⟩, ⟨_, exec_php s, ?phpState, ?phpKeeps, ?phpRam⟩⟩
  case phaState => rw [push_state]; rfl
  case phaRam =>
    intro h
    rw [push_ram h]
    exact ⟨Memory.read_write_same .., rfl⟩
  case phpState => rw [pushStatus_state]; rfl
  case phpKeeps =>
    intro c hc
    exact pushStatus_read_other false s (by simpa using hc)
  case phpRam =>
    intro h
    rw [pushStatus_ram false h]
    simp only [advance_mem, advance_io, Memory.read_write_same]
    obtain ⟨hn, hv, hbreak, hd, hi, hz, hc⟩ := pack_bits (Config.anyBit s.io.draws) (pushedBreak s false) s.p
    exact ⟨hn, hv, hd, hi, hz, hc, fun hlatch => hbreak.trans (pushedBreak_latch hlatch false), rfl⟩

/-- The flags a pulled byte loads, with B by cases on where it has storage (R255). -/
theorem unpack_eq (m : BModel) (b : Byte) (f : Flags) :
    f.unpack m b =
      { n := b.getLsbD 7, v := b.getLsbD 6, b := if m = .latch then b.getLsbD 4 else f.b
        d := b.getLsbD 3, i := b.getLsbD 2, z := b.getLsbD 1, c := b.getLsbD 0 } := by
  cases m <;> rfl

theorem pullA_eq (s : State) :
    pullA s =
      { s with
        a := (pull s).1, p := s.p.setNZ (pull s).1, sp := s.sp + 1, pc := s.pc + 1, io := (pull s).2.io } := by
  rw [pullA, pull_state]
  rfl

theorem pullStatus_eq (s : State) :
    pullStatus s =
      { s with p := s.p.unpack s.cfg.bModel (pull s).1, sp := s.sp + 1, io := (pull s).2.io } := by
  rw [pullStatus, pull_state]

/-- Settles O36: each takes the byte of one pull. -/
theorem pullsReadOneByte : Obligations.PullsReadOneByte := by
  unfold Obligations.PullsReadOneByte
  intro s
  refine ⟨⟨_, exec_pla s, ?plaKept, ?plaState⟩, ⟨_, exec_plp s, ?plpKept, ?plpState⟩, ?memory⟩
  case plaKept => rw [pullA_eq]; exact fun _ => rfl
  case plaState => rw [pullA_eq]; rfl
  case plpKept => rw [pullStatus_eq]; exact fun _ => rfl
  case plpState => rw [pullStatus_eq, unpack_eq]; rfl
  case memory =>
    intro h
    have hpull : busRead { s with sp := s.sp + 1 } (stackAddr (s.sp + 1)) = _ := pull_memory h
    rw [hpull]
    exact ⟨rfl, rfl⟩

/-! ### Subroutines -/

theorem exec_rts (s : State) : exec .rts s = .next (returnFromSubroutine s) := rfl

/-- R351 for an instruction of three bytes: one of them is among the addresses pushed to. -/
theorem landsOnItself_three (pushed : List Addr) (s : State) :
    landsOnItself pushed 3 s = true ↔ ∃ a ∈ [s.pc, s.pc + 1, s.pc + 2], a ∈ pushed := by
  rw [landsOnItself_iff (by decide)]
  have own : ∀ a, (∃ k, k < 3 ∧ a = s.pc + BitVec.ofNat 16 k) ↔ a ∈ [s.pc, s.pc + 1, s.pc + 2] := by
    intro a
    constructor
    · rintro ⟨k, hk, rfl⟩
      interval_cases k <;> simp
    · simp only [List.mem_cons, List.not_mem_nil, or_false]
      rintro (rfl | rfl | rfl)
      exacts [⟨0, by decide, by simp⟩, ⟨1, by decide, rfl⟩, ⟨2, by decide, rfl⟩]
  simp only [own, and_comm]

/-- R351 for an instruction of one byte. -/
theorem landsOnItself_one (pushed : List Addr) (s : State) : landsOnItself pushed 1 s = true ↔ s.pc ∈ pushed := by
  rw [landsOnItself_iff (by decide)]
  simp

theorem unlessOntoItself_of_lands {pushed : List Addr} {len : Nat} {s : State} (h : landsOnItself pushed len s = true)
    (u : State) : unlessOntoItself pushed len s u = .refused (.ontoItself s.pc) := if_pos h

theorem callSubroutine_state (addr : Addr) (s : State) :
    callSubroutine addr s =
      { s with
        pc := addr, sp := s.sp - 2, mem := (pushAddr (s.pc + 2) s).mem, io := (pushAddr (s.pc + 2) s).io } := by
  rw [callSubroutine, pushAddr_state]

theorem callSubroutine_ram (addr : Addr) {s : State} (h0 : s.isRam (stackAddr s.sp) = true)
    (h1 : s.isRam (stackAddr (s.sp - 1)) = true) :
    callSubroutine addr s =
      { s with
        pc := addr, sp := s.sp - 2
        mem :=
          (s.mem.write (stackAddr s.sp) (hiByte (s.pc + 2))).write (stackAddr (s.sp - 1)) (loByte (s.pc + 2)) } := by
  rw [callSubroutine, pushAddr_ram _ h0 h1]

/-- Settles O32: an address pushed, high-order byte first, unless one of the two bytes is the instruction's own. -/
theorem jsrPushesAndJumps : Obligations.JsrPushesAndJumps := by
  unfold Obligations.JsrPushesAndJumps
  intro addr s
  constructor
  · intro hown
    have hlands : landsOnItself (callAddrs s.sp) 3 s = false := by
      rw [Bool.eq_false_iff, Ne, landsOnItself_three]
      rintro ⟨a, ha, hpushed⟩
      exact hown a ha hpushed
    refine ⟨_, unlessOntoItself_next.mpr ⟨hlands, rfl⟩, ?state, ?keeps, ?ram⟩
    case state => rw [callSubroutine_state]
    case keeps =>
      intro c hc
      simp only [List.mem_cons, List.not_mem_nil, or_false, not_or] at hc
      exact pushAddr_read_other (s.pc + 2) s hc.1 hc.2
    case ram =>
      intro h0 h1
      rw [callSubroutine_ram addr h0 h1]
      refine ⟨?_, Memory.read_write_same .., rfl⟩
      rw [Memory.read_write_other _ _ (by simpa using sp_ne_sub_one s.sp), Memory.read_write_same]
  · intro a ha hpushed
    exact unlessOntoItself_of_lands ((landsOnItself_three _ s).mpr ⟨a, ha, hpushed⟩) _

theorem returnFromSubroutine_state (s : State) :
    returnFromSubroutine s = { s with pc := (pullAddr s).1 + 1, sp := s.sp + 2, io := (pullAddr s).2.io } := by
  rw [returnFromSubroutine, pullAddr_state]

theorem returnFromSubroutine_memory {s : State} (h1 : s.isMemory (stackAddr (s.sp + 1)) = true)
    (h2 : s.isMemory (stackAddr (s.sp + 2)) = true) :
    returnFromSubroutine s =
      { s with
        pc := mkAddr (s.mem.read (stackAddr (s.sp + 2))) (s.mem.read (stackAddr (s.sp + 1))) + 1, sp := s.sp + 2 } := by
  rw [returnFromSubroutine, pullAddr_memory h1 h2]

/-- Settles O33: an address pulled, low-order byte first, and 1 added to it. -/
theorem rtsPullsAndAddsOne : Obligations.RtsPullsAndAddsOne := by
  unfold Obligations.RtsPullsAndAddsOne
  intro s
  refine ⟨_, exec_rts s, ?state, ?kept, fun h1 h2 => returnFromSubroutine_memory h1 h2⟩
  case state => rw [returnFromSubroutine_state]
  case kept => rw [returnFromSubroutine_state]; exact fun _ => rfl

/-- A pull of an address reads the two bytes that a push of it wrote, wherever else memory has changed since. -/
theorem pullAddr_of_pushed {s : State} {x : Byte} {a : Addr} (hsp : s.sp = x - 2)
    (h0 : s.isMemory (stackAddr x) = true) (h1 : s.isMemory (stackAddr (x - 1)) = true)
    (hhi : s.mem.read (stackAddr x) = hiByte a) (hlo : s.mem.read (stackAddr (x - 1)) = loByte a) :
    pullAddr s = (a, { s with sp := x }) := by
  have e1 : s.sp + 1 = x - 1 := by rw [hsp]; bv_omega
  have e2 : s.sp + 2 = x := by rw [hsp]; bv_omega
  rw [pullAddr_memory (by rw [e1]; exact h1) (by rw [e2]; exact h0), e1, e2, hhi, hlo, mkAddr_hiByte_loByte]

/-- Settles O34: the two bytes in RAM are those that RTS pulls, and the address after the JSR is one past the pushed. -/
theorem rtsUndoesJsr : Obligations.RtsUndoesJsr := by
  unfold Obligations.RtsUndoesJsr
  intro addr s h0 h1 hlands
  refine ⟨_, _, unlessOntoItself_next.mpr ⟨hlands, rfl⟩, exec_rts _, ?_⟩
  have hpull : pullAddr (callSubroutine addr s) = (s.pc + 2, { callSubroutine addr s with sp := s.sp }) := by
    rw [callSubroutine_ram addr h0 h1]
    refine pullAddr_of_pushed rfl (isMemory_of_isRam h0) (isMemory_of_isRam h1) ?_ (Memory.read_write_same ..)
    rw [Memory.read_write_other _ _ (by simpa using sp_ne_sub_one s.sp), Memory.read_write_same]
  have hnext : s.pc + 2 + 1 = s.pc + 3 := by bv_omega
  rw [returnFromSubroutine, hpull, hnext, callSubroutine_ram addr h0 h1]

/-! ### Entering an interrupt -/

/-- The state whose `P` an entry pushes: BRK sets B first (R255). -/
def pushing (brk : Bool) (s : State) : State := if brk then setBreak s else s

/-- The part of an entry before the vector is taken: three bytes pushed, then I and, where it has storage, B set; BRK
sets B before the push, IRQ and NMI after it (R255). -/
def pushFrame (brk : Bool) (ret : Addr) (s : State) : State :=
  let t := pushStatus brk (pushAddr ret (pushing brk s))
  let u := if brk then t else setBreak t
  { u with p := { u.p with i := true } }

theorem enterInterrupt_eq (brk : Bool) (ret vector : Addr) (s : State) :
    enterInterrupt brk ret vector s = jumpThrough vector (pushFrame brk ret s) := rfl

theorem setBreak_eq (s : State) :
    setBreak s = { s with p := { s.p with b := decide (s.cfg.bModel = .latch) || s.p.b } } := by
  simp only [setBreak, Flags.setBreak]
  split
  · next h => rw [h]; rfl
  · next h => rw [h]; rfl

/-- The byte of `P` that is pushed depends on the flags, the lines and devices and the parameters alone. -/
theorem statusByte_congr {s t : State} (hp : t.p = s.p) (hio : t.io = s.io) (hcfg : t.cfg = s.cfg) (brk : Bool) :
    statusByte t brk = statusByte s brk := by
  simp only [statusByte, pushedBreak, hp, hio, hcfg]

/-- An entry changes the stack pointer, the flags I and B, the three stack bytes and the lines and devices. -/
theorem pushFrame_state (brk : Bool) (ret : Addr) (s : State) :
    pushFrame brk ret s =
      { s with
        sp := s.sp - 3, mem := (pushFrame brk ret s).mem, io := (pushFrame brk ret s).io
        p := { s.p with i := true, b := decide (s.cfg.bModel = .latch) || s.p.b } } := by
  cases brk <;>
    simp only [pushFrame, pushing, if_true, Bool.false_eq_true, if_false, setBreak_eq] <;>
    rw [pushStatus_state, pushAddr_state] <;>
    simp only [sp_sub_three]

theorem pushFrame_keeps (brk : Bool) (ret : Addr) (s : State) :
    MemoryKeptBut (frameAddrs s.sp) s (pushFrame brk ret s) := by
  intro c hc
  simp only [frameAddrs, List.mem_cons, List.not_mem_nil, or_false, not_or] at hc
  obtain ⟨h0, h1, h2⟩ := hc
  have pushes : ∀ u : State, u.sp = s.sp → (pushStatus brk (pushAddr ret u)).mem.read c = u.mem.read c := by
    intro u hu
    have hsp : (pushAddr ret u).sp = s.sp - 2 := by rw [pushAddr_state, hu]
    rw [pushStatus_read_other _ _ (by rw [hsp]; exact h2),
      pushAddr_read_other _ _ (by rw [hu]; exact h0) (by rw [hu]; exact h1)]
  cases brk
  · exact pushes s rfl
  · exact pushes (setBreak s) rfl

theorem pushFrame_bases (brk : Bool) (ret : Addr) (s : State) :
    (pushFrame brk ret s).io.vias.map Via.base = s.io.vias.map Via.base := by
  cases brk <;> exact (pushStatus_bases _ _).trans (pushAddr_bases _ _)

theorem isMemory_pushFrame (brk : Bool) (ret : Addr) (s : State) (a : Addr) :
    (pushFrame brk ret s).isMemory a = s.isMemory a :=
  isMemory_congr (by rw [pushFrame_state]) (pushFrame_bases brk ret s) a

/-- In RAM an entry stores the address and `P` and uses two free values. -/
theorem pushFrame_ram (brk : Bool) (ret : Addr) {s : State} (h : ∀ a ∈ frameAddrs s.sp, s.isRam a = true) :
    pushFrame brk ret s =
      { s with
        sp := s.sp - 3
        mem := ((s.mem.write (stackAddr s.sp) (hiByte ret)).write (stackAddr (s.sp - 1)) (loByte ret)).write
          (stackAddr (s.sp - 2)) (statusByte (pushing brk s) brk)
        io := s.io.draw 2
        p := { s.p with i := true, b := decide (s.cfg.bModel = .latch) || s.p.b } } := by
  simp only [frameAddrs, List.forall_mem_cons] at h
  obtain ⟨h0, h1, h2, -⟩ := h
  have frame : ∀ u : State, u.sp = s.sp → u.io = s.io → u.cfg = s.cfg → u.mem = s.mem →
      pushStatus brk (pushAddr ret u) =
        { u with
          sp := s.sp - 3
          mem := ((s.mem.write (stackAddr s.sp) (hiByte ret)).write (stackAddr (s.sp - 1)) (loByte ret)).write
            (stackAddr (s.sp - 2)) (statusByte u brk)
          io := s.io.draw 2 } := by
    intro u hsp hio hcfg hmem
    have ram : ∀ a, u.isRam a = s.isRam a := fun a => by simp only [State.isRam, hio, hcfg]
    have haddr := pushAddr_ram ret (s := u) (by rw [ram, hsp]; exact h0) (by rw [ram, hsp]; exact h1)
    have hstatus : statusByte (pushAddr ret u) brk = statusByte u brk :=
      statusByte_congr (by rw [haddr]) (by rw [haddr]) (by rw [haddr]) brk
    have htop : (pushAddr ret u).isRam (stackAddr (pushAddr ret u).sp) = true := by
      rw [haddr]
      simpa only [hsp, State.isRam, hio, hcfg] using h2
    rw [pushStatus_ram brk htop, hstatus, haddr]
    simp only [hsp, hio, hmem, sp_sub_three]
  cases brk
  · simp only [pushFrame, pushing, Bool.false_eq_true, if_false, frame s rfl rfl rfl rfl, setBreak_eq]
  · have hp : (setBreak s).p = { s.p with b := decide (s.cfg.bModel = .latch) || s.p.b } :=
      congrArg State.p (setBreak_eq s)
    simp only [pushFrame, pushing, if_true, frame (setBreak s) rfl rfl rfl rfl, hp]
    rfl

/-- The three bytes that an entry leaves in RAM. -/
theorem pushFrame_reads (brk : Bool) (ret : Addr) {s : State} (h : ∀ a ∈ frameAddrs s.sp, s.isRam a = true) :
    (pushFrame brk ret s).mem.read (stackAddr s.sp) = hiByte ret ∧
    (pushFrame brk ret s).mem.read (stackAddr (s.sp - 1)) = loByte ret ∧
    (pushFrame brk ret s).mem.read (stackAddr (s.sp - 2)) = statusByte (pushing brk s) brk := by
  rw [pushFrame_ram brk ret h]
  refine ⟨?_, ?_, Memory.read_write_same ..⟩
  · rw [Memory.read_write_other _ _ (by simpa using sp_ne_sub_two s.sp),
      Memory.read_write_other _ _ (by simpa using sp_ne_sub_one s.sp), Memory.read_write_same]
  · rw [Memory.read_write_other _ _ (by simp), Memory.read_write_same]

/-- An entry as a whole: `pushFrame`, then a new program counter; the vector's reads can act on devices. -/
theorem enterInterrupt_state (brk : Bool) (ret vector : Addr) (s : State) :
    enterInterrupt brk ret vector s =
      { s with
        pc := (enterInterrupt brk ret vector s).pc, sp := s.sp - 3, mem := (enterInterrupt brk ret vector s).mem
        io := (enterInterrupt brk ret vector s).io
        p := { s.p with i := true, b := decide (s.cfg.bModel = .latch) || s.p.b } } := by
  rw [enterInterrupt_eq, jumpThrough_state, pushFrame_state]

theorem enterInterrupt_mem (brk : Bool) (ret vector : Addr) (s : State) :
    (enterInterrupt brk ret vector s).mem = (pushFrame brk ret s).mem := by
  rw [enterInterrupt_eq, jumpThrough_state]

theorem enterInterrupt_keeps (brk : Bool) (ret vector : Addr) (s : State) :
    MemoryKeptBut (frameAddrs s.sp) s (enterInterrupt brk ret vector s) := by
  intro c hc
  rw [enterInterrupt_mem]
  exact pushFrame_keeps brk ret s c hc

/-- A vector outside the three stack bytes reads as it did before the entry. -/
theorem enterInterrupt_memory (brk : Bool) (ret : Addr) {vector : Addr} {s : State}
    (h0 : s.isMemory vector = true) (h1 : s.isMemory (vector + 1) = true)
    (hv0 : vector ∉ frameAddrs s.sp) (hv1 : vector + 1 ∉ frameAddrs s.sp) :
    enterInterrupt brk ret vector s =
      { pushFrame brk ret s with pc := mkAddr (s.mem.read (vector + 1)) (s.mem.read vector) } := by
  rw [enterInterrupt_eq, jumpThrough_memory (by rw [isMemory_pushFrame]; exact h0)
    (by rw [isMemory_pushFrame]; exact h1), pushFrame_keeps brk ret s _ hv0, pushFrame_keeps brk ret s _ hv1]

/-- The vectors do not lie on the stack page. -/
theorem not_mem_frameAddrs {a : Addr} (h : 512 ≤ a.toNat) (sp : Byte) : a ∉ frameAddrs sp := by
  have offPage : ∀ x : Byte, a ≠ stackAddr x := by
    intro x e
    have := stackAddr_toNat x
    rw [← e] at this
    omega
  simp [frameAddrs, offPage]

/-- The bits of the byte of `P` that an entry stores: the flags as they were; bit 4 is left to the callers. -/
theorem statusByte_bits (brk : Bool) (s : State) :
    let b := statusByte (pushing brk s) brk
    b.getLsbD 7 = s.p.n ∧ b.getLsbD 6 = s.p.v ∧ b.getLsbD 4 = pushedBreak (pushing brk s) brk ∧
    b.getLsbD 3 = s.p.d ∧ b.getLsbD 2 = s.p.i ∧ b.getLsbD 1 = s.p.z ∧ b.getLsbD 0 = s.p.c := by
  have flags : ∀ t : State, t.p.n = s.p.n → t.p.v = s.p.v → t.p.d = s.p.d → t.p.i = s.p.i → t.p.z = s.p.z →
      t.p.c = s.p.c →
      let b := statusByte t brk
      b.getLsbD 7 = s.p.n ∧ b.getLsbD 6 = s.p.v ∧ b.getLsbD 4 = pushedBreak t brk ∧
      b.getLsbD 3 = s.p.d ∧ b.getLsbD 2 = s.p.i ∧ b.getLsbD 1 = s.p.z ∧ b.getLsbD 0 = s.p.c := by
    intro t hn hv hd hi hz hc
    rw [← hn, ← hv, ← hd, ← hi, ← hz, ← hc]
    exact pack_bits _ _ t.p
  cases brk
  · exact flags s rfl rfl rfl rfl rfl rfl
  · exact flags (setBreak s) (by simp) (by simp) (by simp) (by simp) (by simp) (by simp)

/-- Settles O39: an entry with B set before the push, which a BRK makes unless it pushes onto its own byte. -/
theorem brkEntersTheHandler : Obligations.BrkEntersTheHandler := by
  unfold Obligations.BrkEntersTheHandler
  intro s
  refine ⟨fun hpc => unlessOntoItself_of_lands ((landsOnItself_one _ s).mpr hpc) _, fun hpc => ?_⟩
  have hlands : landsOnItself (frameAddrs s.sp) 1 s = false := by
    rw [Bool.eq_false_iff, Ne, landsOnItself_one]
    exact hpc
  have hmem : s.isMemory 0xFFFE = true → s.isMemory 0xFFFF = true → _ := fun h0 h1 =>
    enterInterrupt_memory true (s.pc + 2) (vector := irqVector) h0 h1 (not_mem_frameAddrs (by decide) s.sp)
      (not_mem_frameAddrs (by decide) s.sp)
  refine ⟨_, unlessOntoItself_next.mpr ⟨hlands, rfl⟩, enterInterrupt_state .., enterInterrupt_keeps true _ _ s,
    ?frame, ?vector, ?devices⟩
  case frame =>
    intro hram
    rw [enterInterrupt_mem]
    obtain ⟨hhi, hlo, hstatus⟩ := pushFrame_reads true (s.pc + 2) hram
    rw [hhi, hlo, hstatus]
    exact ⟨rfl, rfl, statusByte_bits true s⟩
  case vector =>
    intro h0 h1
    rw [hmem h0 h1]
    rfl
  case devices =>
    intro hram h0 h1
    rw [hmem h0 h1, pushFrame_ram true _ hram]
    rfl

/-- The IRQ and the NMI sequence are entries for `s.pc`; NMI's starts with the latch cleared. -/
theorem interrupt_eq_enterInterrupt {s t : State} {vector : Addr}
    (h : t = irqSequence s ∧ vector = 0xFFFE ∨ t = nmiSequence s ∧ vector = 0xFFFA) :
    t = enterInterrupt false s.pc vector
      { s with io := { s.io with nmiPending := s.io.nmiPending && vector == 0xFFFE } } := by
  rcases h with ⟨rfl, rfl⟩ | ⟨rfl, rfl⟩
  · simp only [beq_self_eq_true, Bool.and_true]
    rfl
  · have : ((0xFFFA : Addr) == 0xFFFE) = false := by decide
    simp only [this, Bool.and_false]
    rfl

/-- Settles O40: both are entries with B set after the push; with an idle environment nothing sets the latch again. -/
theorem interruptsEnterTheHandler : Obligations.InterruptsEnterTheHandler := by
  unfold Obligations.InterruptsEnterTheHandler
  intro s t vector h
  have hvector : 512 ≤ vector.toNat ∧ 512 ≤ (vector + 1).toNat := by
    rcases h with ⟨-, rfl⟩ | ⟨-, rfl⟩ <;> decide
  have ht := interrupt_eq_enterInterrupt h
  generalize hs : ({ s with io := { s.io with nmiPending := s.io.nmiPending && vector == 0xFFFE } } : State) = s' at ht
  have hmem : s.isMemory vector = true → s.isMemory (vector + 1) = true → _ := fun h0 h1 =>
    enterInterrupt_memory false s.pc (vector := vector) (s := s') (by rw [← hs]; exact h0) (by rw [← hs]; exact h1)
      (not_mem_frameAddrs hvector.1 s'.sp) (not_mem_frameAddrs hvector.2 s'.sp)
  subst ht
  refine ⟨?state, ?keeps, ?frame, ?pc, ?devices, ?latch⟩
  case state =>
    rw [enterInterrupt_state, ← hs]
  case keeps =>
    have := enterInterrupt_keeps false s.pc vector s'
    rw [← hs] at this ⊢
    exact this
  case frame =>
    intro hram
    rw [enterInterrupt_mem]
    obtain ⟨hhi, hlo, hstatus⟩ := pushFrame_reads false s.pc (s := s') (by rw [← hs]; exact hram)
    obtain ⟨hn, hv, hbreak, hd, hi, hz, hc⟩ := statusByte_bits false s'
    rw [← hs] at hhi hlo hstatus hn hv hbreak hd hi hz hc ⊢
    rw [hhi, hlo, hstatus]
    exact ⟨rfl, rfl, hn, hv, fun hlatch => hbreak.trans (pushedBreak_latch hlatch false), hd, hi, hz, hc⟩
  case pc =>
    intro h0 h1
    rw [hmem h0 h1, ← hs]
  case devices =>
    intro hram h0 h1
    rw [hmem h0 h1, pushFrame_ram false _ (by rw [← hs]; exact hram), ← hs]
    rfl
  case latch =>
    intro henv hnmi
    have hidle := (Lines.idle_closed s'.io).enterInterrupt false s.pc vector
      (s := s') ⟨by rw [← hs]; exact henv, Lines.sameLines_refl s'.io⟩
    rw [hidle.2.1, ← hs, hnmi]
    exact Bool.and_false _

/-! ### Returning from an interrupt -/

theorem exec_rti (s : State) : exec .rti s = .next (returnFromInterrupt s) := rfl

theorem returnFromInterrupt_state (s : State) :
    returnFromInterrupt s =
      { s with
        pc := (returnFromInterrupt s).pc, sp := s.sp + 3, p := (returnFromInterrupt s).p
        io := (returnFromInterrupt s).io } := by
  simp only [returnFromInterrupt]
  rw [pullAddr_state, pullStatus_eq]
  simp only [sp_add_three]

theorem returnFromInterrupt_memory {s : State} (h1 : s.isMemory (stackAddr (s.sp + 1)) = true)
    (h2 : s.isMemory (stackAddr (s.sp + 2)) = true) (h3 : s.isMemory (stackAddr (s.sp + 3)) = true) :
    returnFromInterrupt s =
      { s with
        pc := mkAddr (s.mem.read (stackAddr (s.sp + 3))) (s.mem.read (stackAddr (s.sp + 2)))
        sp := s.sp + 3, p := s.p.unpack s.cfg.bModel (s.mem.read (stackAddr (s.sp + 1))) } := by
  have hstatus : pullStatus s =
      { s with p := s.p.unpack s.cfg.bModel (s.mem.read (stackAddr (s.sp + 1))), sp := s.sp + 1 } := by
    rw [pullStatus, pull_memory h1]
  rw [returnFromInterrupt, hstatus, pullAddr_memory (by simp only [sp_add_two]; exact h2)
    (by simp only [sp_add_three]; exact h3)]
  simp only [sp_add_two, sp_add_three]

/-- Settles O41: `P` first, then an address, to which nothing is added. -/
theorem rtiReturns : Obligations.RtiReturns := by
  unfold Obligations.RtiReturns
  intro s
  refine ⟨_, exec_rti s, ?kept, returnFromInterrupt_state s, ?memory⟩
  case kept => rw [returnFromInterrupt_state]; exact fun _ => rfl
  case memory =>
    intro h1 h2 h3
    rw [returnFromInterrupt_memory h1 h2 h3, unpack_eq]

/-- RTI after an entry reads the three bytes that the entry pushed. -/
theorem rti_after_entry (brk : Bool) (ret vector : Addr) {s : State} (h : ∀ a ∈ frameAddrs s.sp, s.isRam a = true) :
    returnFromInterrupt (enterInterrupt brk ret vector s) =
      { s with
        mem := (enterInterrupt brk ret vector s).mem, io := (enterInterrupt brk ret vector s).io, pc := ret
        p := { s.p with b := if s.cfg.bModel = .latch then pushedBreak (pushing brk s) brk else s.p.b } } := by
  obtain ⟨hhi, hlo, hstatus⟩ := pushFrame_reads brk ret h
  obtain ⟨hn, hv, hbreak, hd, hi, hz, hc⟩ := statusByte_bits brk s
  rw [← enterInterrupt_mem brk ret vector s] at hhi hlo hstatus
  have hsp : (enterInterrupt brk ret vector s).sp = s.sp - 3 := by rw [enterInterrupt_state]
  have hcfg : (enterInterrupt brk ret vector s).cfg = s.cfg := by rw [enterInterrupt_state]
  have hmem : ∀ a ∈ frameAddrs s.sp, (enterInterrupt brk ret vector s).isMemory a = true := by
    intro a ha
    rw [isMemory_congr hcfg]
    · exact isMemory_of_isRam (h a ha)
    · exact (busRead_bases _ _).trans ((busRead_bases _ _).trans (pushFrame_bases brk ret s))
  simp only [frameAddrs, List.forall_mem_cons] at hmem
  obtain ⟨h3, h2, h1, -⟩ := hmem
  have e1 : s.sp - 3 + 1 = s.sp - 2 := by bv_omega
  have e2 : s.sp - 3 + 2 = s.sp - 1 := by bv_omega
  have e3 : s.sp - 3 + 3 = s.sp := by bv_omega
  rw [returnFromInterrupt_memory (by rw [hsp, e1]; exact h1) (by rw [hsp, e2]; exact h2)
    (by rw [hsp, e3]; exact h3), hsp, e1, e2, e3, hhi, hlo, hstatus, mkAddr_hiByte_loByte, unpack_eq, hn, hv, hbreak, hd,
    hi, hz, hc, hcfg]
  rw [enterInterrupt_state]
  cases hlatch : s.cfg.bModel <;> simp

/-- Settles O42: RTI pulls what the entry pushed; what BRK pushes has bit 4 set. -/
theorem rtiUndoesTheEntry : Obligations.RtiUndoesTheEntry := by
  unfold Obligations.RtiUndoesTheEntry
  intro s hram
  constructor
  · intro t ht
    have restored : ∀ vector (s' : State), s' = { s with io := s'.io } → (∀ a, s'.isRam a = s.isRam a) →
        ∃ u, exec .rti (enterInterrupt false s.pc vector s') = .next u ∧
          u = { s with mem := (enterInterrupt false s.pc vector s').mem, io := u.io, pc := s.pc } := by
      intro vector s' hs hsame
      refine ⟨_, exec_rti _, ?_⟩
      have hsp : s'.sp = s.sp := by rw [hs]
      rw [rti_after_entry false s.pc vector (by rw [hsp]; simpa only [hsame] using hram)]
      generalize (enterInterrupt false s.pc vector s').mem = mem
      generalize (enterInterrupt false s.pc vector s').io = io
      have hb : (if s'.cfg.bModel = .latch then pushedBreak (pushing false s') false else s'.p.b) = s'.p.b := by
        split
        · next hlatch => exact pushedBreak_latch hlatch false
        · rfl
      rw [hb, hs]
    rcases ht with rfl | rfl
    · exact restored irqVector s rfl fun _ => rfl
    · exact restored nmiVector { s with io := { s.io with nmiPending := false } } rfl fun _ => rfl
  · intro hpc
    have hlands : landsOnItself (frameAddrs s.sp) 1 s = false := by
      rw [Bool.eq_false_iff, Ne, landsOnItself_one]
      exact hpc
    refine ⟨_, _, unlessOntoItself_next.mpr ⟨hlands, rfl⟩, exec_rti _, ?_⟩
    rw [rti_after_entry true (s.pc + 2) irqVector hram]
    cases s.cfg.bModel <;> rfl

end Sys2Proof.Proofs.StackAndInterrupts

/-! The instructions by what they do with their operand: those that read it, those that store, those that read and write
back, and the branches. One equation of `exec` for each kind, and one equation for each shared meaning. -/

namespace Sys2Proof.Proofs.Kinds

open Sys2Proof Sys2Proof.Machine

/-! ### Instructions that read an operand -/

/-- What an instruction that reads an operand does with it, by its mnemonic. -/
def readMeaning : Op → Operand → State → State
  | .adc => adc
  | .sbc => sbc
  | .and => andA
  | .ora => oraA
  | .eor => eorA
  | .bit => bitTest
  | .cmp => cmp
  | .cpx => cpx
  | .cpy => cpy
  | .lda => lda
  | .ldx => ldx
  | .ldy => ldy
  | _ => fun _ s => s

theorem exec_of_operand {i : Instr} {o : Operand} (h : i.operand = some o) (s : State) :
    exec i s = .next (readMeaning i.op o s) := by
  cases i <;> cases h <;> rfl

theorem length_of_operand {i : Instr} {o : Operand} (h : i.operand = some o) : i.length = o.length := by
  cases i <;> cases h <;> rfl

/-- The twelve mnemonics of which an operand is read. -/
theorem op_of_operand {i : Instr} {o : Operand} (h : i.operand = some o) :
    i.op ∈ [Op.adc, .sbc, .and, .ora, .eor, .bit, .cmp, .cpx, .cpy, .lda, .ldx, .ldy] := by
  cases i <;> cases h <;> exact List.mem_of_elem_eq_true rfl

variable (o : Operand) (s : State)

theorem lda_eq : lda o s =
    { s with
      a := (o.read s).1, p := s.p.setNZ (o.read s).1, pc := s.pc + BitVec.ofNat 16 o.length
      io := (o.read s).2.io } := by
  simp [lda, State.advance]

theorem ldx_eq : ldx o s =
    { s with
      x := (o.read s).1, p := s.p.setNZ (o.read s).1, pc := s.pc + BitVec.ofNat 16 o.length
      io := (o.read s).2.io } := by
  simp [ldx, State.advance]

theorem ldy_eq : ldy o s =
    { s with
      y := (o.read s).1, p := s.p.setNZ (o.read s).1, pc := s.pc + BitVec.ofNat 16 o.length
      io := (o.read s).2.io } := by
  simp [ldy, State.advance]

theorem logic_eq (f : Byte → Byte → Byte) : logic f o s =
    { s with
      a := f s.a (o.read s).1, p := s.p.setNZ (f s.a (o.read s).1), pc := s.pc + BitVec.ofNat 16 o.length
      io := (o.read s).2.io } := by
  simp [logic, State.advance]

theorem bitTest_eq : bitTest o s =
    { s with
      p := s.p.bitTest s.a (o.read s).1, pc := s.pc + BitVec.ofNat 16 o.length, io := (o.read s).2.io } := by
  simp [bitTest, State.advance]

theorem compareWith_eq (r : Byte) : compareWith r o s =
    { s with
      p := s.p.compare r (o.read s).1, pc := s.pc + BitVec.ofNat 16 o.length, io := (o.read s).2.io } := by
  simp [compareWith, State.advance]

/-- ADC and SBC in binary mode use no free value; in decimal mode they use four (R130). -/
theorem drawDecimal_io : (drawDecimal s).io = if s.p.d then s.io.draw 4 else s.io := by
  unfold drawDecimal
  split <;> rfl

theorem adc_eq : adc o s =
    { s with
      a := (addWithCarry s.p s.a (o.read s).1 (o.read s).2.io.draws).r
      p := s.p.setAlu (addWithCarry s.p s.a (o.read s).1 (o.read s).2.io.draws)
      pc := s.pc + BitVec.ofNat 16 o.length, io := (drawDecimal (o.read s).2).io } := by
  simp [adc, State.advance, putAlu]

theorem sbc_eq : sbc o s =
    { s with
      a := (subWithCarry s.p s.a (o.read s).1 (o.read s).2.io.draws).r
      p := s.p.setAlu (subWithCarry s.p s.a (o.read s).1 (o.read s).2.io.draws)
      pc := s.pc + BitVec.ofNat 16 o.length, io := (drawDecimal (o.read s).2).io } := by
  simp [sbc, State.advance, putAlu]

/-! ### Stores -/

/-- The register that a store instruction stores. -/
def storedRegister : Op → State → Byte
  | .stx, s => s.x
  | .sty, s => s.y
  | _, s => s.a

variable {i : Instr}

theorem exec_of_place {p : Place} (h : i.place = some p) (s : State) :
    exec i s = .next ((p.store (storedRegister i.op s) s).advance p.length) := by
  cases i <;> cases h <;> rfl

theorem length_of_place {p : Place} (h : i.place = some p) : i.length = p.length := by
  cases i <;> cases h <;> rfl

theorem op_of_place {p : Place} (h : i.place = some p) : i.op ∈ [Op.sta, .stx, .sty] := by
  cases i <;> cases h <;> exact List.mem_of_elem_eq_true rfl

/-! ### Read-modify-write instructions -/

/-- The byte and the flags that a read-modify-write instruction makes of the flags and the byte it reads. -/
def modifyMeaning : Op → Flags → Byte → Byte × Flags
  | .inc, f, m => (m + 1, f.setNZ (m + 1))
  | .dec, f, m => (m + -1, f.setNZ (m + -1))
  | .lsr, f, m => (Shift.lsr.result f.c m, f.setNZC (Shift.lsr.result f.c m) (Shift.lsr.carryOut m))
  | .rol, f, m => (Shift.rol.result f.c m, f.setNZC (Shift.rol.result f.c m) (Shift.rol.carryOut m))
  | .ror, f, m => (Shift.ror.result f.c m, f.setNZC (Shift.ror.result f.c m) (Shift.ror.carryOut m))
  | _, f, m => (Shift.asl.result f.c m, f.setNZC (Shift.asl.result f.c m) (Shift.asl.carryOut m))

theorem exec_of_target {t : Target} (h : i.target = some t) (s : State) :
    exec i s = .next ((t.modify (modifyMeaning i.op) s).advance t.length) := by
  cases i <;> cases h <;> rfl

theorem length_of_target {t : Target} (h : i.target = some t) : i.length = t.length := by
  cases i <;> cases h <;> rfl

theorem op_of_target {t : Target} (h : i.target = some t) : i.op ∈ [Op.asl, .lsr, .rol, .ror, .inc, .dec] := by
  cases i <;> cases h <;> exact List.mem_of_elem_eq_true rfl

/-! ### Branches -/

theorem exec_of_displacement {disp : Byte} (h : i.displacement = some disp) (s : State) :
    exec i s = .next (branch (branchTaken i s.p) disp s) := by
  cases i <;> cases h <;> rfl

theorem branch_eq (taken : Bool) (disp : Byte) (s : State) :
    branch taken disp s = { s with pc := s.pc + 2 + if taken then sext disp else 0 } := by
  cases taken
  · simp [branch, State.advance]
  · rfl

/-! ### All instructions -/

/-- The instructions whose operand, if any, is an address to jump to or the stack's. -/
inductive Plain : Instr → Prop
  | jmpAbs (addr : Addr) : Plain (.jmpAbs addr)
  | jmpInd (ptr : Addr) : Plain (.jmpInd ptr)
  | rts : Plain .rts
  | rti : Plain .rti
  | pha : Plain .pha
  | php : Plain .php
  | pla : Plain .pla
  | plp : Plain .plp
  | clc : Plain .clc
  | cld : Plain .cld
  | cli : Plain .cli
  | clv : Plain .clv
  | sec : Plain .sec
  | sed : Plain .sed
  | sei : Plain .sei
  | nop : Plain .nop
  | dex : Plain .dex
  | dey : Plain .dey
  | inx : Plain .inx
  | iny : Plain .iny
  | tax : Plain .tax
  | tay : Plain .tay
  | tsx : Plain .tsx
  | txa : Plain .txa
  | txs : Plain .txs
  | tya : Plain .tya

/-- Every instruction is of one kind. -/
inductive Kind (i : Instr) : Prop
  | reads (o : Operand) (h : i.operand = some o)
  | stores (p : Place) (h : i.place = some p)
  | modifies (t : Target) (h : i.target = some t)
  | branches (disp : Byte) (h : i.displacement = some disp)
  | jsr (addr : Addr) (h : i = .jsr addr)
  | brk (h : i = .brk)
  | plain (h : Plain i)

theorem kind (i : Instr) : Kind i := by
  cases i
  case jsr addr => exact .jsr addr rfl
  case brk => exact .brk rfl
  all_goals
    first
    | exact .reads _ rfl
    | exact .stores _ rfl
    | exact .modifies _ rfl
    | exact .branches _ rfl
    | exact .plain (by constructor)

end Sys2Proof.Proofs.Kinds

/-! Which instruction writes what (R21 to R23, R37, R57): one frame for every instruction, by the kinds of `Kind`. -/

namespace Sys2Proof.Proofs.Frames

open Sys2Proof Sys2Proof.Machine
open Sys2Proof.Proofs.Kinds Sys2Proof.Proofs.StackAndInterrupts
open Sys2Proof.Proofs.IndexSteps (stepX_eq stepY_eq)
open Sys2Proof.Proofs.FlagsAndNop (setFlags_eq)
open Sys2Proof.Proofs.Transfers (moveA_eq moveX_eq moveY_eq)

/-- `t` differs from `s` only in what the instruction is listed as writing, in the program counter and in the lines and
devices. -/
structure Frame (i : Instr) (s t : State) : Prop where
  flagN : i.op.writesN = false → t.p.n = s.p.n
  flagV : i.op.writesV = false → t.p.v = s.p.v
  flagB : i.op.writesB = false → t.p.b = s.p.b
  flagD : i.op.writesD = false → t.p.d = s.p.d
  flagI : i.op.writesI = false → t.p.i = s.p.i
  flagZ : i.op.writesN = false → t.p.z = s.p.z
  flagC : i.op.writesC = false → t.p.c = s.p.c
  regA : i.writesA = false → t.a = s.a
  regX : i.op.writesX = false → t.x = s.x
  regY : i.op.writesY = false → t.y = s.y
  regSp : i.op.writesSp = false → t.sp = s.sp
  cfg : t.cfg = s.cfg
  cycles : t.cycles = s.cycles
  mem : i.writesMemory = false → t.mem = s.mem

variable {i : Instr}

/-- An instruction that reads its operand writes the registers and flags of its mnemonic. -/
theorem frame_of_operand {o : Operand} (h : i.operand = some o) (s : State) : Frame i s (readMeaning i.op o s) := by
  have hop := op_of_operand h
  simp only [List.mem_cons, List.not_mem_nil, or_false] at hop
  rcases hop with h | h | h | h | h | h | h | h | h | h | h | h
  all_goals
    constructor <;>
      simp [h, readMeaning, adc_eq, sbc_eq, andA, oraA, eorA, logic_eq, bitTest_eq, Machine.cmp, cpx, cpy, compareWith_eq, lda_eq,
        ldx_eq, ldy_eq, Instr.writesA, Op.writesN, Op.writesV, Op.writesC, Op.writesX, Op.writesY]

/-- A store writes memory. -/
theorem frame_of_place {p : Place} (h : i.place = some p) (s : State) (b : Byte) :
    Frame i s ((p.store b s).advance p.length) := by
  have hwrites : i.writesMemory = true := by
    have hop := op_of_place h
    simp only [List.mem_cons, List.not_mem_nil, or_false] at hop
    rcases hop with h | h | h <;> simp [Instr.writesMemory, h]
  rw [store_state]
  constructor <;> simp [hwrites]

/-- The flags that a read-modify-write instruction writes. -/
theorem modifyMeaning_flags {t : Target} (h : i.target = some t) (f : Flags) (m : Byte) :
    (modifyMeaning i.op f m).2 =
      { f with
        n := (modifyMeaning i.op f m).2.n, z := (modifyMeaning i.op f m).2.z, c := (modifyMeaning i.op f m).2.c } ∧
    (i.op.writesC = false → (modifyMeaning i.op f m).2.c = f.c) ∧ i.op.writesN = true := by
  have hop := op_of_target h
  simp only [List.mem_cons, List.not_mem_nil, or_false] at hop
  rcases hop with h | h | h | h | h | h <;> rw [h] <;> exact ⟨rfl, by simp [Op.writesC, modifyMeaning], rfl⟩

/-- A read-modify-write instruction writes the accumulator or memory, by its mode. -/
theorem frame_of_target {t : Target} (h : i.target = some t) (s : State) :
    Frame i s ((t.modify (modifyMeaning i.op) s).advance t.length) := by
  cases t with
  | acc =>
    have hwrites : i.writesA = true := by cases i <;> cases h <;> rfl
    obtain ⟨hflags, hcarry, hN⟩ := modifyMeaning_flags h s.p s.a
    simp only [Target.modify]
    rw [hflags]
    constructor <;> simp [hwrites, hN]
    exact hcarry
  | mem p =>
    have hwrites : i.writesMemory = true := by cases i <;> cases h <;> rfl
    obtain ⟨hflags, hcarry, hN⟩ := modifyMeaning_flags h s.p (Operand.read (.mem p) s).1
    rw [modify_state, hflags]
    constructor <;> simp [hwrites, hN]
    exact hcarry

/-- A change of the program counter and of the lines and devices alone is within every frame. -/
theorem frame_of_pc_io (s : State) (pc : Addr) (io : Io) : Frame i s { s with pc := pc, io := io } := by
  constructor <;> simp

theorem frame_of_branch (taken : Bool) (disp : Byte) (s : State) : Frame i s (branch taken disp s) := by
  rw [branch_eq]
  exact frame_of_pc_io s _ s.io

theorem exec_jmpAbs (addr : Addr) (s : State) : exec (.jmpAbs addr) s = .next { s with pc := addr } := rfl

theorem exec_jmpInd (ptr : Addr) (s : State) : exec (.jmpInd ptr) s = .next (jump (readJumpTarget ptr s)) := rfl

/-- Reading the target of a jump changes nothing but the lines and devices. -/
theorem readJumpTarget_state (ptr : Addr) (s : State) :
    (readJumpTarget ptr s).2 = { s with io := (readJumpTarget ptr s).2.io } := by
  unfold readJumpTarget
  split
  · split
    · exact busReadPair_state ..
    · exact busReadPair_state ..
    · simp only [freeByte]
      rw [busRead_state]
  · exact busReadPair_state ..

theorem jmpInd_state (ptr : Addr) (s : State) :
    jump (readJumpTarget ptr s) =
      { s with pc := (readJumpTarget ptr s).1, io := (readJumpTarget ptr s).2.io } := by
  rw [jump, readJumpTarget_state]

/-- The frame of an instruction without an operand in memory: one equation each. -/
theorem frame_of_plain (h : Plain i) {s t : State} (he : exec i s = .next t) : Frame i s t := by
  cases h with
  | jmpAbs addr => cases he; exact frame_of_pc_io s addr s.io
  | jmpInd ptr => cases he; rw [jmpInd_state]; exact frame_of_pc_io s _ _
  | rts => cases he; rw [returnFromSubroutine_state]; constructor <;> simp [Instr.op, Op.writesSp]
  | rti =>
    cases he
    rw [returnFromInterrupt_state]
    constructor <;> simp [Instr.op, Op.writesSp, Op.writesN, Op.writesV, Op.writesB, Op.writesD, Op.writesI, Op.writesC]
  | pha =>
    cases he
    rw [push_state]
    constructor <;> simp [Instr.op, Op.writesSp, Instr.writesMemory]
  | php =>
    cases he
    rw [pushStatus_state]
    constructor <;> simp [Instr.op, Op.writesSp, Instr.writesMemory]
  | pla =>
    cases he
    rw [pullA_eq]
    constructor <;> simp [Instr.op, Op.writesSp, Op.writesN, Instr.writesA]
  | plp =>
    cases he
    rw [pullStatus_eq]
    constructor <;> simp [Instr.op, Op.writesSp, Op.writesN, Op.writesV, Op.writesB, Op.writesD, Op.writesI, Op.writesC]
  | clc | sec => cases he; rw [setFlags_eq]; constructor <;> simp [Instr.op, Op.writesC]
  | cld | sed => cases he; rw [setFlags_eq]; constructor <;> simp [Instr.op, Op.writesD]
  | cli | sei => cases he; rw [setFlags_eq]; constructor <;> simp [Instr.op, Op.writesI]
  | clv => cases he; rw [setFlags_eq]; constructor <;> simp [Instr.op, Op.writesV]
  | nop => cases he; exact frame_of_pc_io s _ s.io
  | inx | dex => cases he; rw [stepX_eq]; constructor <;> simp [Instr.op, Op.writesN, Op.writesX]
  | iny | dey => cases he; rw [stepY_eq]; constructor <;> simp [Instr.op, Op.writesN, Op.writesY]
  | tax | tsx => cases he; rw [moveX_eq]; constructor <;> simp [Instr.op, Op.writesN, Op.writesX]
  | tay => cases he; rw [moveY_eq]; constructor <;> simp [Instr.op, Op.writesN, Op.writesY]
  | txa | tya => cases he; rw [moveA_eq]; constructor <;> simp [Instr.op, Op.writesN, Instr.writesA]
  | txs => cases he; constructor <;> simp [Instr.op, Op.writesSp]

/-- Every instruction stays within its frame. -/
theorem frame_of_exec {s t : State} (h : exec i s = .next t) : Frame i s t := by
  cases kind i with
  | reads o ho => rw [exec_of_operand ho] at h; cases h; exact frame_of_operand ho s
  | stores p hp => rw [exec_of_place hp] at h; cases h; exact frame_of_place hp s _
  | modifies u hu => rw [exec_of_target hu] at h; cases h; exact frame_of_target hu s
  | branches disp hd => rw [exec_of_displacement hd] at h; cases h; exact frame_of_branch _ _ s
  | jsr addr hi =>
    subst hi
    obtain ⟨-, rfl⟩ := unlessOntoItself_next.mp h
    rw [callSubroutine_state]
    constructor <;> simp [Instr.op, Op.writesSp, Instr.writesMemory]
  | brk hi =>
    subst hi
    obtain ⟨-, rfl⟩ := unlessOntoItself_next.mp h
    rw [enterInterrupt_state]
    constructor <;> simp [Instr.op, Op.writesSp, Op.writesB, Op.writesI, Instr.writesMemory]
  | plain hi => exact frame_of_plain hi h

/-- Settles O15: the flags of the frame. -/
theorem flagsWrittenByWhom : Obligations.FlagsWrittenByWhom := by
  unfold Obligations.FlagsWrittenByWhom
  intro i s t h
  have hf := frame_of_exec h
  exact ⟨hf.flagN, hf.flagV, hf.flagB, hf.flagD, hf.flagI, hf.flagZ, hf.flagC⟩

/-- Settles O16: the registers, the parameters and the memory of the frame. -/
theorem registersAndMemoryWrittenByWhom : Obligations.RegistersAndMemoryWrittenByWhom := by
  unfold Obligations.RegistersAndMemoryWrittenByWhom
  intro i s t h
  have hf := frame_of_exec h
  exact ⟨hf.regA, hf.regX, hf.regY, hf.regSp, hf.cfg, hf.cycles,
    fun hwrites a => congrArg (Memory.read · a) (hf.mem hwrites)⟩

end Sys2Proof.Proofs.Frames

/-! Loads, stores, arithmetic, logic and shifts (R120 to R131, R140 to R148, R200 to R205): each kind of instruction
by its equation, and the arithmetic of its result and flags. -/

namespace Sys2Proof.Proofs.Data

open Sys2Proof Sys2Proof.Machine
open Sys2Proof.Proofs.Kinds
open Sys2Proof.Proofs.Transfers (setNZ_eq)

/-! ### Loads -/

/-- Settles O17: three loads, each into its register, for an operand of any mode. -/
theorem loadsLoadTheirOperand : Obligations.LoadsLoadTheirOperand := by
  unfold Obligations.LoadsLoadTheirOperand
  intro i o s ho
  have hexec := exec_of_operand ho s
  rw [length_of_operand ho]
  rw [hexec]
  refine ⟨fun hop => ?lda, fun hop => ?ldx, fun hop => ?ldy⟩
  case lda => rw [hop, readMeaning, lda_eq, setNZ_eq]; exact ⟨_, rfl, fun _ => rfl, rfl⟩
  case ldx => rw [hop, readMeaning, ldx_eq, setNZ_eq]; exact ⟨_, rfl, fun _ => rfl, rfl⟩
  case ldy => rw [hop, readMeaning, ldy_eq, setNZ_eq]; exact ⟨_, rfl, fun _ => rfl, rfl⟩

/-! ### What a write to the effective address does -/

/-- A bus write where memory is as in `s`: no other byte changes, in RAM the byte is there and nothing else has
happened, elsewhere memory is kept. -/
theorem busWrite_effect {s u : State} (hmem : u.mem = s.mem) (a : Addr) (b : Byte) :
    MemoryKeptBut [a] s (busWrite u a b) ∧
    (u.isRam a = true → (busWrite u a b).mem.read a = b ∧ (busWrite u a b).io = u.io) ∧
    (u.isRam a = false → MemoryKept s (busWrite u a b)) := by
  refine ⟨fun c hc => ?_, fun h => ?_, fun h c => ?_⟩
  · rw [busWrite_read_other u b (by simpa using hc), hmem]
  · rw [busWrite_ram h]
    exact ⟨Memory.read_write_same .., rfl⟩
  · rw [busWrite_not_ram h, hmem]

/-- Settles O18: one bus write of the register at the effective address, whatever answers there. -/
theorem storesStoreTheirRegister : Obligations.StoresStoreTheirRegister := by
  unfold Obligations.StoresStoreTheirRegister
  intro i p s b hp hb e
  have hreg : storedRegister i.op s = b := by
    rcases hb with ⟨hop, rfl⟩ | ⟨hop, rfl⟩ | ⟨hop, rfl⟩ <;> rw [hop] <;> rfl
  have hstate : (p.store b s).advance p.length =
      { busWrite e.2 e.1 b with pc := s.pc + BitVec.ofNat 16 i.length } := by
    rw [length_of_place hp, State.advance, Place.store, busWrite_pc, ea_pc]
  rw [exec_of_place hp, hreg, hstate]
  refine ⟨_, rfl, rfl, ?_, busWrite_effect (ea_mem p s) e.1 b⟩
  simp [e]

/-! ### Arithmetic in binary mode -/

theorem getLsbD_seven (b : Byte) : b.getLsbD 7 = decide (128 ≤ b.toNat) :=
  (BitVec.msb_eq_getLsbD_last b).symm.trans (BitVec.msb_eq_decide b)

theorem toInt_eq (b : Byte) : b.toInt = if 128 ≤ b.toNat then (b.toNat : Int) - 256 else b.toNat := by
  rw [BitVec.toInt_eq_toNat_cond]
  split <;> split <;> omega

theorem bitNat_le (f : Bool) : bitNat f ≤ 1 := by cases f <;> decide

theorem bitNat_decide (q : Prop) [Decidable q] : bitNat (decide q) = if q then 1 else 0 := by
  simp [bitNat]

theorem bitNat_not_decide (q : Prop) [Decidable q] : bitNat (!decide q) = if q then 0 else 1 := by
  by_cases h : q <;> simp [bitNat, h]

/-- R120: carry and result together are the sum. -/
theorem addBinary_sum (a m : Byte) (carry : Bool) :
    256 * bitNat (addBinary a m carry).c + (addBinary a m carry).r.toNat = a.toNat + m.toNat + bitNat carry := by
  have hcarry := bitNat_le carry
  simp only [addBinary, bitNat_decide, BitVec.toNat_ofNat]
  split <;> omega

/-- R120: V says that the signed sum does not fit. -/
theorem addBinary_overflow (a m : Byte) (carry : Bool) :
    (addBinary a m carry).v = true ↔
      a.toInt + m.toInt + bitNat carry < -128 ∨ 127 < a.toInt + m.toInt + bitNat carry := by
  have hcarry := bitNat_le carry
  simp only [addBinary, getLsbD_seven, toInt_eq, BitVec.toNat_ofNat, Bool.and_eq_true, beq_iff_eq, bne_iff_ne, ne_eq,
    decide_eq_decide]
  split <;> split <;> omega

/-- R131: with a borrow 256 is taken off, and the result is the difference. -/
theorem subBinary_difference (a m : Byte) (carry : Bool) :
    ((subBinary a m carry).r.toNat : Int) - 256 * (1 - bitNat (subBinary a m carry).c) =
      a.toNat - m.toNat - (1 - bitNat carry) := by
  have hcarry := bitNat_le carry
  simp only [subBinary, bitNat_not_decide, BitVec.toNat_ofNat]
  split <;> omega

/-- R131: V says that the signed difference does not fit. -/
theorem subBinary_overflow (a m : Byte) (carry : Bool) :
    (subBinary a m carry).v = true ↔
      a.toInt - m.toInt - (1 - bitNat carry) < -128 ∨ 127 < a.toInt - m.toInt - (1 - bitNat carry) := by
  have hcarry := bitNat_le carry
  simp only [subBinary, getLsbD_seven, toInt_eq, BitVec.toNat_ofNat, Bool.and_eq_true, bne_iff_ne, ne_eq,
    decide_eq_decide]
  split <;> split <;> omega

/-- The state after ADC or SBC in binary mode, where the arithmetic answers `r`: no free value is used. -/
def afterBinary (r : AluResult) (o : Operand) (s : State) : State :=
  { s with a := r.r, p := s.p.setAlu r, pc := s.pc + BitVec.ofNat 16 o.length, io := (o.read s).2.io }

theorem adc_binary (o : Operand) {s : State} (hd : s.p.d = false) :
    adc o s = afterBinary (addBinary s.a (o.read s).1 s.p.c) o s := by
  rw [adc_eq, drawDecimal_io, operandRead_p]
  simp only [addWithCarry, hd, Bool.false_eq_true, if_false]
  rfl

theorem sbc_binary (o : Operand) {s : State} (hd : s.p.d = false) :
    sbc o s = afterBinary (subBinary s.a (o.read s).1 s.p.c) o s := by
  rw [sbc_eq, drawDecimal_io, operandRead_p]
  simp only [subWithCarry, hd, Bool.false_eq_true, if_false]
  rfl

/-- Settles O20: the state is that of the binary sum, whose laws are `addBinary_sum` and `addBinary_overflow`. -/
theorem adcInBinaryMode : Obligations.AdcInBinaryMode := by
  unfold Obligations.AdcInBinaryMode
  intro i o s hop ho hd m
  refine ⟨afterBinary (addBinary s.a m.1 s.p.c) o s, ?exec, fun _ => rfl, ?state, addBinary_sum s.a m.1 s.p.c,
    addBinary_overflow s.a m.1 s.p.c, rfl, rfl⟩
  case exec => rw [exec_of_operand ho, hop, readMeaning, adc_binary o hd]
  case state => rw [length_of_operand ho]; rfl

/-- Settles O21: as O20, with the difference. -/
theorem sbcInBinaryMode : Obligations.SbcInBinaryMode := by
  unfold Obligations.SbcInBinaryMode
  intro i o s hop ho hd m borrow
  refine ⟨afterBinary (subBinary s.a m.1 s.p.c) o s, ?exec, fun _ => rfl, ?state, subBinary_difference s.a m.1 s.p.c,
    subBinary_overflow s.a m.1 s.p.c, rfl, rfl⟩
  case exec => rw [exec_of_operand ho, hop, readMeaning, sbc_binary o hd]
  case state => rw [length_of_operand ho]; rfl

/-! ### Arithmetic in decimal mode -/

theorem validBcd_iff (b : Byte) : validBcd b = true ↔ b.toNat / 16 ≤ 9 ∧ b.toNat % 16 ≤ 9 := by
  simp only [validBcd, Bool.and_eq_true, decide_eq_true_eq]

theorem bcdVal_lt {b : Byte} (h : validBcd b = true) : bcdVal b < 100 := by
  rw [validBcd_iff] at h
  unfold bcdVal
  omega

theorem toBcd_toNat {n : Nat} (h : n < 100) : (toBcd n).toNat = n / 10 * 16 + n % 10 := by
  rw [toBcd, BitVec.toNat_ofNat]
  omega

/-- R130: `bcd` and `val` are inverse below 100. -/
theorem bcdVal_toBcd {n : Nat} (h : n < 100) : bcdVal (toBcd n) = n := by
  rw [bcdVal, toBcd_toNat h]
  omega

theorem validBcd_toBcd {n : Nat} (h : n < 100) : validBcd (toBcd n) = true := by
  rw [validBcd_iff, toBcd_toNat h]
  omega

theorem addDecimal_valid {a m : Byte} (ha : validBcd a = true) (hm : validBcd m = true) (carry : Bool) (d : Nat) :
    let r := addDecimal a m carry d
    validBcd r.r = true ∧ bcdVal r.r + 100 * bitNat r.c = bcdVal a + bcdVal m + bitNat carry := by
  have hcarry := bitNat_le carry
  have hva := bcdVal_lt ha
  have hvm := bcdVal_lt hm
  have hlt : (bcdVal a + bcdVal m + bitNat carry) % 100 < 100 := Nat.mod_lt _ (by decide)
  simp only [addDecimal, ha, hm, Bool.and_self, if_true, decimalResult, bitNat_decide, bcdVal_toBcd hlt]
  refine ⟨validBcd_toBcd hlt, ?_⟩
  split <;> omega

theorem subDecimal_valid {a m : Byte} (ha : validBcd a = true) (hm : validBcd m = true) (carry : Bool) (d : Nat) :
    let r := subDecimal a m carry d
    validBcd r.r = true ∧
    (bcdVal r.r : Int) - 100 * (1 - bitNat r.c) = bcdVal a - bcdVal m - (1 - bitNat carry) := by
  have hcarry := bitNat_le carry
  have hva := bcdVal_lt ha
  have hvm := bcdVal_lt hm
  have hlt : (100 + bcdVal a - (bcdVal m + (1 - bitNat carry))) % 100 < 100 := Nat.mod_lt _ (by decide)
  simp only [subDecimal, ha, hm, Bool.and_self, if_true, decimalResult, bitNat_not_decide, bcdVal_toBcd hlt]
  refine ⟨validBcd_toBcd hlt, ?_⟩
  split <;> omega

/-- The state after ADC or SBC in decimal mode, where the arithmetic answers `r`: four free values are used. -/
def afterDecimal (r : AluResult) (o : Operand) (s : State) : State :=
  { s with a := r.r, p := s.p.setAlu r, pc := s.pc + BitVec.ofNat 16 o.length, io := (o.read s).2.io.draw 4 }

theorem adc_decimal (o : Operand) {s : State} (hd : s.p.d = true) :
    adc o s = afterDecimal (addDecimal s.a (o.read s).1 s.p.c (o.read s).2.io.draws) o s := by
  rw [adc_eq, drawDecimal_io, operandRead_p]
  simp only [addWithCarry, hd, if_true]
  rfl

theorem sbc_decimal (o : Operand) {s : State} (hd : s.p.d = true) :
    sbc o s = afterDecimal (subDecimal s.a (o.read s).1 s.p.c (o.read s).2.io.draws) o s := by
  rw [sbc_eq, drawDecimal_io, operandRead_p]
  simp only [subWithCarry, hd, if_true]
  rfl

/-- Settles O22: the state is that of the decimal sum or difference, whose laws hold where both operands are valid. -/
theorem decimalArithmetic : Obligations.DecimalArithmetic := by
  unfold Obligations.DecimalArithmetic
  intro i o s hop ho hd m
  rw [exec_of_operand ho, length_of_operand ho]
  rcases hop with hop | hop
  · rw [hop, readMeaning, adc_decimal o hd]
    refine ⟨_, rfl, fun _ => rfl, rfl, fun ha hm => ?_⟩
    obtain ⟨hvalid, hsum⟩ := addDecimal_valid ha hm s.p.c m.2.io.draws
    exact ⟨hvalid, fun _ => hsum, nofun⟩
  · rw [hop, readMeaning, sbc_decimal o hd]
    refine ⟨_, rfl, fun _ => rfl, rfl, fun ha hm => ?_⟩
    obtain ⟨hvalid, hdifference⟩ := subDecimal_valid ha hm s.p.c m.2.io.draws
    exact ⟨hvalid, nofun, fun _ => hdifference⟩

/-! ### Comparisons -/

theorem compare_eq (reg m : Byte) (f : Flags) :
    f.compare reg m =
      { f with n := (reg - m).getLsbD 7, z := decide (reg = m), c := decide (m.toNat ≤ reg.toNat) } := by
  have hz : (reg - m == 0) = decide (reg = m) := decide_eq_decide.mpr sub_eq_zero
  have hc : (!decide (reg.toNat < m.toNat)) = decide (m.toNat ≤ reg.toNat) := by
    rw [← decide_not, decide_eq_decide, Nat.not_lt]
  rw [Flags.compare, Flags.setNZC, Flags.setNZ, hz, hc]

/-- Settles O23: three comparisons, each of its register. -/
theorem comparisonsSetFlags : Obligations.ComparisonsSetFlags := by
  unfold Obligations.ComparisonsSetFlags
  intro i o s reg ho hreg m
  have hexec : exec i s = .next (compareWith reg o s) := by
    rw [exec_of_operand ho]
    rcases hreg with ⟨hop, rfl⟩ | ⟨hop, rfl⟩ | ⟨hop, rfl⟩ <;> rw [hop] <;> rfl
  rw [hexec, compareWith_eq, compare_eq, length_of_operand ho]
  exact ⟨_, rfl, fun _ => rfl, rfl⟩

/-! ### Logic -/

/-- Settles O26: one logic operation on the accumulator for each mnemonic, and the flags of BIT. -/
theorem logicAndBitTest : Obligations.LogicAndBitTest := by
  unfold Obligations.LogicAndBitTest
  intro i o s ho m pc
  have hpc : pc = s.pc + BitVec.ofNat 16 o.length := by rw [← length_of_operand ho]
  constructor
  · intro r hr
    have hexec : ∃ f : Byte → Byte → Byte, exec i s = .next (logic f o s) ∧ f s.a m.1 = r := by
      rw [exec_of_operand ho]
      rcases hr with ⟨hop, rfl⟩ | ⟨hop, rfl⟩ | ⟨hop, rfl⟩ <;> rw [hop] <;> exact ⟨_, rfl, rfl⟩
    obtain ⟨f, hexec, hf⟩ := hexec
    rw [hexec, logic_eq, hf, hpc]
    exact ⟨_, rfl, fun _ => rfl, rfl⟩
  · intro hop
    rw [exec_of_operand ho, hop, readMeaning, bitTest_eq, hpc]
    exact ⟨_, rfl, fun _ => rfl, rfl⟩

/-! ### Read-modify-write -/

/-- The state after a read-modify-write of the byte at the effective address that writes back `r` and leaves the flags
`f`. -/
def afterModify (p : Place) (s : State) (r : Byte) (f : Flags) : State :=
  { busWrite (unlistedAccesses true (p.ea s).1 (busRead (p.ea s).2 (p.ea s).1).2) (p.ea s).1 r with
    p := f, pc := s.pc + BitVec.ofNat 16 p.length }

theorem exec_of_mem_target {i : Instr} {p : Place} (h : i.target = some (.mem p)) (s : State) :
    exec i s = .next (afterModify p s (modifyMeaning i.op s.p (busRead (p.ea s).2 (p.ea s).1).1).1
      (modifyMeaning i.op s.p (busRead (p.ea s).2 (p.ea s).1).1).2) := by
  rw [exec_of_target h]
  simp [Target.modify, Target.length, State.advance, afterModify]

/-- What a read-modify-write changes: flags, program counter, memory at the effective address, lines and devices. -/
theorem afterModify_effect (p : Place) (s : State) (r : Byte) (f : Flags) :
    let e := p.ea s
    let m := busRead e.2 e.1
    let t := afterModify p s r f
    t = { s with p := t.p, pc := t.pc, mem := t.mem, io := t.io } ∧ MemoryKeptBut [e.1] s t ∧
    (m.2.isRam e.1 = true → t.mem.read e.1 = r ∧ t.io = m.2.io) ∧ (m.2.isRam e.1 = false → MemoryKept s t) := by
  intro e m t
  have hmem : (unlistedAccesses true e.1 m.2).mem = s.mem := by simp [m, e]
  obtain ⟨hother, hram, hnot⟩ := busWrite_effect hmem e.1 r
  rw [isRam_unlistedAccesses] at hram hnot
  refine ⟨?_, hother, fun h => ?_, hnot⟩
  · simp [t, afterModify]
  · obtain ⟨hread, hio⟩ := hram h
    exact ⟨hread, hio.trans (by rw [unlistedAccesses_unclaimed (claims_of_isRam h)])⟩

/-- Settles O24: the byte is one more or one less, and goes back where it came from. -/
theorem incDecChangeMemory : Obligations.IncDecChangeMemory := by
  unfold Obligations.IncDecChangeMemory
  intro i p s r htarget e m hr
  have hmeaning : modifyMeaning i.op s.p m.1 = (r, s.p.setNZ r) := by
    rcases hr with ⟨hop, hr⟩ | ⟨hop, hr⟩
    · have : m.1 + 1 = r := by bv_omega
      rw [hop, modifyMeaning, this]
    · have : m.1 + -1 = r := by bv_omega
      rw [hop, modifyMeaning, this]
  rw [exec_of_mem_target htarget, hmeaning, length_of_target htarget]
  exact ⟨_, rfl, rfl, afterModify_effect p s r _⟩

/-! ### Shifts and rotates -/

/-- R148: the four shifts as arithmetic on the byte and the carry. -/
theorem shift_laws (m : Byte) (c : Bool) :
    256 * bitNat (Shift.asl.carryOut m) + (Shift.asl.result c m).toNat = 2 * m.toNat ∧
    2 * (Shift.lsr.result c m).toNat + bitNat (Shift.lsr.carryOut m) = m.toNat ∧
    256 * bitNat (Shift.rol.carryOut m) + (Shift.rol.result c m).toNat = 2 * m.toNat + bitNat c ∧
    2 * (Shift.ror.result c m).toNat + bitNat (Shift.ror.carryOut m) = m.toNat + 256 * bitNat c := by
  revert m c
  decide

/-- Settles O29: a check of the 256 bytes with either carry. -/
theorem rotatesAreInverse : Obligations.RotatesAreInverse := by
  unfold Obligations.RotatesAreInverse
  decide

theorem lsr_result_seven (m : Byte) (c : Bool) : (Shift.lsr.result c m).getLsbD 7 = false := by
  obtain ⟨-, hlaw, -, -⟩ := shift_laws m c
  rw [getLsbD_seven, decide_eq_false_iff_not]
  omega

/-- The state after a shift of the accumulator. -/
theorem shift_acc_eq (k : Shift) (s : State) :
    shift k .acc s =
      { s with
        a := k.result s.p.c s.a, p := s.p.setNZC (k.result s.p.c s.a) (k.carryOut s.a), pc := s.pc + 1 } := rfl

theorem exec_aslAcc (s : State) : exec .aslAcc s = .next (shift .asl .acc s) := rfl

theorem exec_lsrAcc (s : State) : exec .lsrAcc s = .next (shift .lsr .acc s) := rfl

theorem exec_rolAcc (s : State) : exec .rolAcc s = .next (shift .rol .acc s) := rfl

theorem exec_rorAcc (s : State) : exec .rorAcc s = .next (shift .ror .acc s) := rfl

/-- Settles O27: the four shifts of the accumulator under the laws of R148. -/
theorem shiftsOfTheAccumulator : Obligations.ShiftsOfTheAccumulator := by
  unfold Obligations.ShiftsOfTheAccumulator
  intro s after
  have hafter : ∀ k, after (shift k .acc s) := fun k => by rw [shift_acc_eq]; rfl
  obtain ⟨hasl, hlsr, hrol, hror⟩ := shift_laws s.a s.p.c
  exact ⟨⟨_, exec_aslAcc s, hafter .asl, hasl⟩, ⟨_, exec_lsrAcc s, hafter .lsr, hlsr, lsr_result_seven s.a s.p.c⟩,
    ⟨_, exec_rolAcc s, hafter .rol, hrol⟩, ⟨_, exec_rorAcc s, hafter .ror, hror⟩⟩

/-- Settles O28: the shifts as read-modify-write instructions, under the laws of R148. -/
theorem shiftsOfMemory : Obligations.ShiftsOfMemory := by
  unfold Obligations.ShiftsOfMemory
  intro i p s htarget hinc hdec e m
  obtain ⟨k, hkasl, hklsr, hkrol, hkror, hmeaning⟩ : ∃ k : Shift,
      (i.op = .asl → k = .asl) ∧ (i.op = .lsr → k = .lsr) ∧ (i.op = .rol → k = .rol) ∧ (i.op = .ror → k = .ror) ∧
      modifyMeaning i.op s.p m.1 = (k.result s.p.c m.1, s.p.setNZC (k.result s.p.c m.1) (k.carryOut m.1)) := by
    have hop := op_of_target htarget
    simp only [List.mem_cons, List.not_mem_nil, or_false, hinc, hdec] at hop
    rcases hop with hop | hop | hop | hop <;> rw [hop]
    exacts [⟨.asl, by simp, by simp, by simp, by simp, rfl⟩, ⟨.lsr, by simp, by simp, by simp, by simp, rfl⟩,
      ⟨.rol, by simp, by simp, by simp, by simp, rfl⟩, ⟨.ror, by simp, by simp, by simp, by simp, rfl⟩]
  obtain ⟨hasl, hlsr, hrol, hror⟩ := shift_laws m.1 s.p.c
  obtain ⟨hstate, heffect⟩ := afterModify_effect p s (k.result s.p.c m.1)
    (s.p.setNZC (k.result s.p.c m.1) (k.carryOut m.1))
  rw [exec_of_mem_target htarget, hmeaning, length_of_target htarget]
  refine ⟨_, k.result s.p.c m.1, rfl, rfl, hstate, fun h => ?_, fun h => ?_, fun h => ?_, fun h => ?_, heffect⟩
  · obtain rfl := hkasl h; exact hasl
  · obtain rfl := hklsr h; exact hlsr
  · obtain rfl := hkrol h; exact hrol
  · obtain rfl := hkror h; exact hror

end Sys2Proof.Proofs.Data

/-! Branches, jumps, the step and its time (R93, R160 to R172, R243, R285, R340 to R359). -/

namespace Sys2Proof.Proofs.Control

open Sys2Proof Sys2Proof.Machine
open Sys2Proof.Proofs.Kinds Sys2Proof.Proofs.Frames
open Sys2Proof.Proofs.StackAndInterrupts (landsOnItself_one landsOnItself_three unlessOntoItself_of_lands)
open Sys2Proof.Proofs.Data (toInt_eq)

/-! ### Branches -/

theorem sext_toNat (b : Byte) : (sext b).toNat = if 128 ≤ b.toNat then b.toNat + 65280 else b.toNat := by
  rw [sext, BitVec.toNat_signExtend, BitVec.msb_eq_decide, BitVec.toNat_setWidth]
  have := b.isLt
  by_cases h : 128 ≤ b.toNat
  · simp [h]; omega
  · simp [h]; omega

/-- R172: the target as a number, modulo 65536. -/
theorem branch_target (pc : Addr) (taken : Bool) (disp : Byte) :
    ((pc + 2 + if taken then sext disp else 0 : Addr).toNat : Int) =
      (pc.toNat + 2 + (if taken then disp.toInt else 0)) % 65536 := by
  have hpc := pc.isLt
  cases taken
  · simp only [Bool.false_eq_true, if_false]
    bv_omega
  · have hd := disp.isLt
    have htwo : (2 : Addr).toNat = 2 := rfl
    simp only [if_true, BitVec.toNat_add, sext_toNat, toInt_eq, htwo]
    split <;> omega

/-- Settles O30: a branch adds its displacement when it is taken, and each mnemonic tests its flag. -/
theorem branchesTestOneFlag : Obligations.BranchesTestOneFlag := by
  unfold Obligations.BranchesTestOneFlag
  intro i disp s hd
  rw [exec_of_displacement hd, branch_eq]
  refine ⟨_, branchTaken i s.p, rfl, rfl, fun _ => rfl, branch_target s.pc _ disp, ?_⟩
  unfold branchTaken
  refine ⟨?_, ?_, ?_, ?_, ?_, ?_, ?_, ?_⟩ <;> intro hop <;> rw [hop]

/-! ### Jumps -/

/-- The low-order byte of the target is at the pointer, whatever `JMP_IND_WRAP` says. -/
theorem loByte_readJumpTarget (ptr : Addr) (s : State) :
    loByte (readJumpTarget ptr s).1 = (busRead s ptr).1 := by
  unfold readJumpTarget
  split
  · split <;> exact loByte_mkAddr ..
  · exact loByte_mkAddr ..

theorem readJumpTarget_next {ptr : Addr} {s : State} (h : loByte ptr = 0xFF → s.cfg.jmpIndWrap = .next) :
    readJumpTarget ptr s = busReadPair s ptr (ptr + 1) := by
  unfold readJumpTarget
  split
  · next hwrap => simp only [h hwrap]
  · rfl

/-- The start of a page, from its last byte. -/
theorem pageStart {ptr : Addr} (h : loByte ptr = 0xFF) : mkAddr (hiByte ptr) 0x00 = ptr - 0xFF := by
  have hlo := congrArg BitVec.toNat h
  rw [loByte_toNat] at hlo
  apply BitVec.eq_of_toNat_eq
  rw [mkAddr_toNat, hiByte_toNat]
  bv_omega

theorem readJumpTarget_samePage {ptr : Addr} {s : State} (h : loByte ptr = 0xFF)
    (hwrap : s.cfg.jmpIndWrap = .samePage) : readJumpTarget ptr s = busReadPair s ptr (ptr - 0xFF) := by
  simp only [readJumpTarget, h, if_true, hwrap, ← pageStart h]

/-- Settles O31: the target by where its two bytes are read. -/
theorem jumpsLoadTheProgramCounter : Obligations.JumpsLoadTheProgramCounter := by
  unfold Obligations.JumpsLoadTheProgramCounter
  refine ⟨exec_jmpAbs, fun ptr s => ?_⟩
  have hnext : (loByte ptr = 0xFF → s.cfg.jmpIndWrap = .next) → s.isMemory ptr = true →
      s.isMemory (ptr + 1) = true →
      jump (readJumpTarget ptr s) = { s with pc := mkAddr (s.mem.read (ptr + 1)) (s.mem.read ptr) } := by
    intro hwrap hlo hhi
    rw [readJumpTarget_next hwrap, busReadPair_memory hlo hhi, jump]
  refine ⟨_, exec_jmpInd ptr s, ?state, ?kept, ?plain, ?next, ?samePage, ?low⟩
  case state => rw [jmpInd_state]
  case kept => rw [jmpInd_state]; exact fun _ => rfl
  case plain => exact fun hlo hhi hptr => hnext (fun h => absurd h hptr) hlo hhi
  case next => exact fun hlo hhi _ hwrap => hnext (fun _ => hwrap) hlo hhi
  case samePage =>
    intro hlo hhi hptr hwrap
    rw [readJumpTarget_samePage hptr hwrap, busReadPair_memory hlo hhi, jump]
  case low =>
    intro hlo _
    rw [jump, loByte_readJumpTarget, busRead_memory hlo]

/-! ### What completes and what is refused -/

/-- R242: an instruction that does not push onto itself has a next state. -/
theorem exec_completes {i : Instr} {s : State} (hself : i.ontoItself s = false) : ∃ t, exec i s = .next t := by
  cases kind i with
  | reads o h => exact ⟨_, exec_of_operand h s⟩
  | stores p h => exact ⟨_, exec_of_place h s⟩
  | modifies t h => exact ⟨_, exec_of_target h s⟩
  | branches disp h => exact ⟨_, exec_of_displacement h s⟩
  | jsr addr h => subst h; exact ⟨_, unlessOntoItself_next.mpr ⟨hself, rfl⟩⟩
  | brk h => subst h; exact ⟨_, unlessOntoItself_next.mpr ⟨hself, rfl⟩⟩
  | plain h => cases h <;> exact ⟨_, rfl⟩

theorem eq_of_ontoItself {i : Instr} {s : State} (h : i.ontoItself s = true) :
    (∃ addr, i = .jsr addr) ∨ i = .brk := by
  cases i with
  | jsr addr => exact .inl ⟨addr, rfl⟩
  | brk => exact .inr rfl
  | _ => cases h

/-- R351: an instruction that pushes onto itself is refused. -/
theorem exec_of_ontoItself {i : Instr} {s : State} (hself : i.ontoItself s = true) :
    exec i s = .refused (.ontoItself s.pc) := by
  rcases eq_of_ontoItself hself with ⟨addr, rfl⟩ | rfl
  · exact unlessOntoItself_of_lands hself _
  · exact unlessOntoItself_of_lands hself _

theorem eq_jsr_of_op {i : Instr} (h : i.op = .jsr) : ∃ addr, i = .jsr addr := by
  cases i with
  | jsr addr => exact ⟨addr, rfl⟩
  | _ => cases h

theorem ontoItself_iff (i : Instr) (s : State) :
    i.ontoItself s = true ↔
      (i.op = .jsr ∧ ∃ a ∈ [s.pc, s.pc + 1, s.pc + 2], a ∈ [stackAddr s.sp, stackAddr (s.sp - 1)]) ∨
      (i = .brk ∧ s.pc ∈ [stackAddr s.sp, stackAddr (s.sp - 1), stackAddr (s.sp - 2)]) := by
  constructor
  · intro h
    rcases eq_of_ontoItself h with ⟨addr, rfl⟩ | rfl
    · exact .inl ⟨rfl, (landsOnItself_three (callAddrs s.sp) s).mp h⟩
    · exact .inr ⟨rfl, (landsOnItself_one (frameAddrs s.sp) s).mp h⟩
  · rintro (⟨hop, h⟩ | ⟨rfl, h⟩)
    · obtain ⟨addr, rfl⟩ := eq_jsr_of_op hop
      exact (landsOnItself_three (callAddrs s.sp) s).mpr h
    · exact (landsOnItself_one (frameAddrs s.sp) s).mpr h

/-- A refused instruction pushes onto itself. -/
theorem exec_refused {i : Instr} {s : State} {r : Refusal} (h : exec i s = .refused r) : r = .ontoItself s.pc := by
  cases hself : i.ontoItself s with
  | false =>
    obtain ⟨t, ht⟩ := exec_completes hself
    rw [ht] at h
    cases h
  | true =>
    rw [exec_of_ontoItself hself] at h
    cases h
    rfl

theorem pc_of_fetch {s t : State} {i : Instr} (h : fetch s = .ok (i, t)) : t.pc = s.pc := by
  unfold fetch at h
  dsimp only at h
  split at h
  · cases h
  all_goals
    cases h
    simp only [busRead_pc]

/-- A fetch without an instruction answers an operation code that the opcode map does not list. -/
theorem form_of_fetch_error {s : State} {op : Byte} (h : fetch s = .error op) : opcodeForm op = none := by
  unfold fetch at h
  dsimp only at h
  split at h
  case h_1 hform => cases h; exact hform
  all_goals cases h

/-- Settles O13: every instruction completes but for the two that may push onto themselves, and a step adds the fetch. -/
theorem nothingFaults : Obligations.NothingFaults := by
  unfold Obligations.NothingFaults
  refine ⟨fun _ _ => exec_completes, fun _ _ => exec_of_ontoItself, ontoItself_iff, fun _ r => (nomatch r),
    fun s r h => ?_⟩
  unfold step at h
  split at h
  case h_5 =>
    unfold runInstruction at h
    split at h
    case h_1 i s1 hfetch =>
      cases hexec : exec i (ready i s1) with
      | next u => rw [hexec] at h; cases h
      | fault f => cases f
      | refused q =>
        rw [hexec] at h
        cases h
        rw [exec_refused hexec, ready, charge_pc, pc_of_fetch hfetch]
        exact .inr rfl
    case h_2 op hfetch =>
      cases h
      exact .inl ⟨op, (Encoding.opcodeForm_eq_none_iff op).mp (form_of_fetch_error hfetch), rfl⟩
  all_goals cases h

/-! ### The choice at a boundary -/

/-- A step is the action of its boundary, whichever of the five it is. -/
theorem step_eq (s : State) :
    step s = match boundary (arrive s) with
      | .held => .next (arrive s)
      | .reset => .next (sequenceClock (resetSequence (arrive s)))
      | .nmi => .next (sequenceClock (nmiSequence (arrive s)))
      | .irq => .next (sequenceClock (irqSequence (arrive s)))
      | .run => runInstruction (arrive s) := rfl

/-- Settles O9: the clauses of `boundary`, each with those before it false. -/
theorem stepChoosesByPriority : Obligations.StepChoosesByPriority := by
  unfold Obligations.StepChoosesByPriority
  intro s r
  have hstep : ∀ b, boundary r = b → step s = _ := fun b hb => by rw [step_eq, hb]
  refine ⟨fun hres => hstep .held ?_, fun hres hdue => hstep .reset ?_, fun hres hdue hnmi => hstep .nmi ?_,
    fun hres hdue hnmi hirq hi => hstep .irq ?_, fun hres hdue hnmi hrun => hstep .run ?_⟩
  · simp [boundary, hres]
  · simp [boundary, hres, hdue]
  · simp [boundary, hres, hdue, hnmi]
  · simp [boundary, hres, hdue, hnmi, hirq, hi]
  · rcases hrun with hirq | hi
    · simp [boundary, hres, hdue, hnmi, hirq]
    · simp [boundary, hres, hdue, hnmi, hi]

end Sys2Proof.Proofs.Control

/-! A step that runs an instruction (R24, R54, R243, R285): the fetch from memory is the decoder, and an instruction
that accesses no VIA leaves the lines and devices to the clock. -/

namespace Sys2Proof.Proofs.Steps

open Sys2Proof Sys2Proof.Machine
open Sys2Proof.Proofs.Kinds Sys2Proof.Proofs.Frames Sys2Proof.Proofs.StackAndInterrupts
open Sys2Proof.Proofs.Addressing (indexed_snd_of_unclaimed)

/-! ### The fetch -/

/-- Where the bytes of an instruction are memory, the fetch is the decoder and reads nothing else. -/
theorem fetch_memory {s : State} {i : Instr} {rest : List Byte}
    (hmem : ∀ k, k < i.length → s.isMemory (s.pc + BitVec.ofNat 16 k) = true)
    (h : decode [s.mem.read s.pc, s.mem.read (s.pc + 1), s.mem.read (s.pc + 2)] = .ok (i, rest)) :
    fetch s = .ok (i, s) := by
  have hlength : ∀ n, i.mode.length = n → ∀ k, k < n → s.isMemory (s.pc + BitVec.ofNat 16 k) = true :=
    fun n hn k hk => hmem k (by rw [Instr.length, hn]; exact hk)
  have first : ∀ n, i.mode.length = n → 0 < n → busRead s s.pc = (s.mem.read s.pc, s) := fun n hn hpos =>
    busRead_memory (by simpa using hlength n hn 0 hpos)
  have second : ∀ n, i.mode.length = n → 1 < n → busRead s (s.pc + 1) = (s.mem.read (s.pc + 1), s) :=
    fun n hn hpos => busRead_memory (hlength n hn 1 hpos)
  have third : i.mode.length = 3 → busRead s (s.pc + 2) = (s.mem.read (s.pc + 2), s) :=
    fun hn => busRead_memory (hlength 3 hn 2 (by decide))
  rcases Encoding.decode_ok_cases h with
    ⟨op, hform, hbytes⟩ | ⟨op, mk, b, hform, hbytes, rfl⟩ | ⟨op, mk, lo, hi, hform, hbytes, rfl⟩
  · obtain ⟨-, -, hn⟩ := opcodeForm_fits hform
    simp only [List.cons.injEq] at hbytes
    obtain ⟨rfl, -⟩ := hbytes
    simp only [fetch, first 1 hn (by decide), hform]
  · obtain ⟨-, -, hn⟩ := opcodeForm_fits hform b
    simp only [List.cons.injEq] at hbytes
    obtain ⟨rfl, rfl, -⟩ := hbytes
    simp only [fetch, first 2 hn (by decide), hform, second 2 hn (by decide)]
  · obtain ⟨-, -, hn⟩ := opcodeForm_fits hform (mkAddr hi lo)
    simp only [List.cons.injEq] at hbytes
    obtain ⟨rfl, rfl, rfl, -⟩ := hbytes
    simp only [fetch, first 3 hn (by decide), hform, second 3 hn (by decide), third hn]

/-! ### Accesses at no VIA -/

/-- The lines and devices are as they were, but for the number of free values used. -/
def Quiet (s t : State) : Prop := t.io = { s.io with draws := t.io.draws }

theorem quiet_of_io_eq {s t : State} (h : t.io = s.io) : Quiet s t := by
  rw [Quiet, h]

theorem Quiet.trans {s t u : State} (hst : Quiet s t) (htu : Quiet t u) : Quiet s u := by
  rw [Quiet, htu, hst]

theorem Quiet.claims {s t : State} (h : Quiet s t) (a : Addr) : t.io.claims a = s.io.claims a := by
  rw [h]
  rfl

theorem busRead_quiet {s : State} {a : Addr} (h : s.io.claims a = false) : Quiet s (busRead s a).2 :=
  busRead_unclaimed h

theorem busReadPair_quiet {s : State} {lo hi : Addr} (hlo : s.io.claims lo = false) (hhi : s.io.claims hi = false) :
    Quiet s (busReadPair s lo hi).2 :=
  (busRead_quiet hlo).trans (busRead_quiet (((busRead_quiet hlo).claims hi).trans hhi))

theorem jumpThrough_quiet {vector : Addr} {s : State} (hlo : s.io.claims vector = false)
    (hhi : s.io.claims (vector + 1) = false) : Quiet s (jumpThrough vector s) :=
  (busReadPair_quiet hlo hhi).trans (quiet_of_io_eq rfl)

theorem busWrite_quiet {s : State} {a : Addr} (h : s.io.claims a = false) (b : Byte) : Quiet s (busWrite s a b) :=
  quiet_of_io_eq (busWrite_unclaimed h b)

theorem push_quiet {s : State} (h : s.io.claims (stackAddr s.sp) = false) (b : Byte) : Quiet s (push b s) :=
  busWrite_quiet h b

theorem pull_quiet {s : State} (h : s.io.claims (stackAddr (s.sp + 1)) = false) : Quiet s (pull s).2 :=
  busRead_quiet (s := { s with sp := s.sp + 1 }) h

theorem pushAddr_quiet {s : State} (h0 : s.io.claims (stackAddr s.sp) = false)
    (h1 : s.io.claims (stackAddr (s.sp - 1)) = false) (a : Addr) : Quiet s (pushAddr a s) := by
  have hfirst := push_quiet h0 (hiByte a)
  exact hfirst.trans (push_quiet (by rw [hfirst.claims, push_sp]; exact h1) _)

theorem pullAddr_quiet {s : State} (h1 : s.io.claims (stackAddr (s.sp + 1)) = false)
    (h2 : s.io.claims (stackAddr (s.sp + 2)) = false) : Quiet s (pullAddr s).2 := by
  have hfirst := pull_quiet h1
  exact hfirst.trans (pull_quiet (by rw [hfirst.claims, pull_sp, sp_add_two]; exact h2))

theorem pushStatus_quiet {s : State} (h : s.io.claims (stackAddr s.sp) = false) (brk : Bool) :
    Quiet s (pushStatus brk s) :=
  push_quiet (s := { s with io := s.io.draw 2 }) h _

theorem pushFrame_quiet {s : State} (h : ∀ a ∈ frameAddrs s.sp, s.io.claims a = false) (brk : Bool) (ret : Addr) :
    Quiet s (pushFrame brk ret s) := by
  simp only [frameAddrs, List.forall_mem_cons] at h
  obtain ⟨h0, h1, h2, -⟩ := h
  have pushes : ∀ u : State, u.io = s.io → u.sp = s.sp → Quiet s (pushStatus brk (pushAddr ret u)) := by
    intro u hio hsp
    have haddr : Quiet s (pushAddr ret u) :=
      (quiet_of_io_eq hio).trans (pushAddr_quiet (by rw [hio, hsp]; exact h0) (by rw [hio, hsp]; exact h1) ret)
    exact haddr.trans (pushStatus_quiet (by rw [haddr.claims, pushAddr_state, hsp]; exact h2) brk)
  cases brk
  · exact pushes s rfl rfl
  · exact pushes (setBreak s) rfl rfl

/-! ### The addresses an instruction accesses -/

theorem ea_mem_placeAccesses (p : Place) (s : State) : (p.ea s).1 ∈ placeAccesses p s := by
  cases p <;> simp [placeAccesses]

theorem ea_quiet {p : Place} {s : State} (h : ∀ a ∈ placeAccesses p s, s.io.claims a = false) :
    Quiet s (p.ea s).2 := by
  have pointer : ∀ (b : Byte) (ea : Addr),
      (∀ a ∈ [zext b, zext (b + 1), uncorrected (readPointer s b).1 ea, ea], s.io.claims a = false) →
      Quiet s (indexed (readPointer s b).1 ea (readPointer s b).2).2 := by
    intro b ea hb
    obtain ⟨hlo, hb⟩ := List.forall_mem_cons.mp hb
    obtain ⟨hhi, hindexed⟩ := List.forall_mem_cons.mp hb
    have hread : Quiet s (readPointer s b).2 := busReadPair_quiet hlo hhi
    refine hread.trans (quiet_of_io_eq (congrArg State.io (indexed_snd_of_unclaimed fun a ha => ?_)))
    rw [hread.claims]
    exact hindexed a ha
  cases p with
  | zp b => exact quiet_of_io_eq rfl
  | abs addr => exact quiet_of_io_eq rfl
  | zpx b => exact quiet_of_io_eq (congrArg State.io (indexed_snd_of_unclaimed h))
  | zpy b => exact quiet_of_io_eq (congrArg State.io (indexed_snd_of_unclaimed h))
  | absx addr => exact quiet_of_io_eq (congrArg State.io (indexed_snd_of_unclaimed h))
  | absy addr => exact quiet_of_io_eq (congrArg State.io (indexed_snd_of_unclaimed h))
  | indx b => exact pointer (b + s.x) _ h
  | indy b => exact pointer b _ h

variable {i : Instr} {p : Place}

theorem accesses_of_operand (h : i.operand = some (.mem p)) (s : State) : i.accesses s = placeAccesses p s := by
  cases i <;> cases h <;> rfl

theorem accesses_of_place (h : i.place = some p) (s : State) : i.accesses s = placeAccesses p s := by
  cases i <;> cases h <;> rfl

theorem accesses_of_target (h : i.target = some (.mem p)) (s : State) : i.accesses s = placeAccesses p s := by
  cases i <;> cases h <;> rfl

/-- The accesses of JMP (indirect). -/
theorem accesses_jmpInd (ptr : Addr) (s : State) :
    (Instr.jmpInd ptr).accesses s =
      match decide (loByte ptr = 0xFF), s.cfg.jmpIndWrap with
      | true, .samePage => [ptr, mkAddr (hiByte ptr) 0x00]
      | true, .free => [ptr]
      | _, _ => [ptr, ptr + 1] := rfl

/-! ### Instructions at no VIA -/

theorem operandRead_quiet {o : Operand} {s : State}
    (h : ∀ p, o = .mem p → ∀ a ∈ placeAccesses p s, s.io.claims a = false) :
    Quiet s (o.read s).2 := by
  cases o with
  | imm b => exact quiet_of_io_eq rfl
  | mem p =>
    have hea := ea_quiet (h p rfl)
    exact hea.trans (busRead_quiet ((hea.claims _).trans (h p rfl _ (ea_mem_placeAccesses p s))))

/-- What an instruction that reads an operand does to the lines and devices is what the read does; decimal mode uses
free values. -/
theorem readMeaning_quiet (op : Op) (o : Operand) {s : State} (h : Quiet s (o.read s).2) :
    Quiet s (readMeaning op o s) := by
  have same : ∀ t : State, t.io = (o.read s).2.io → Quiet s t := fun t ht => h.trans (quiet_of_io_eq ht)
  have decimal : Quiet s (drawDecimal (o.read s).2) := by
    unfold drawDecimal
    split
    · exact h.trans (by rw [Quiet]; rfl)
    · exact h
  unfold readMeaning
  split
  case h_1 => exact decimal
  case h_2 => exact decimal
  case h_13 => exact quiet_of_io_eq rfl
  all_goals exact same _ rfl

theorem modify_quiet {s : State} (h : ∀ a ∈ placeAccesses p s, s.io.claims a = false)
    (f : Flags → Byte → Byte × Flags) : Quiet s ((Target.mem p).modify f s) := by
  have hea : s.io.claims (p.ea s).1 = false := h _ (ea_mem_placeAccesses p s)
  have hread : Quiet s ((Operand.mem p).read s).2 := operandRead_quiet fun q hq => by cases hq; exact h
  have hclaims : (busRead (p.ea s).2 (p.ea s).1).2.io.claims (p.ea s).1 = false := (hread.claims _).trans hea
  simp only [Target.modify, unlistedAccesses_unclaimed hclaims]
  exact hread.trans (busWrite_quiet hclaims _)

theorem readJumpTarget_quiet {ptr : Addr} {s : State} (h : ∀ a ∈ (Instr.jmpInd ptr).accesses s, s.io.claims a = false) :
    Quiet s (readJumpTarget ptr s).2 := by
  rw [accesses_jmpInd] at h
  unfold readJumpTarget
  by_cases hptr : loByte ptr = 0xFF
  · simp only [hptr, decide_true, if_true] at h ⊢
    cases hwrap : s.cfg.jmpIndWrap <;> simp only [hwrap, List.forall_mem_cons] at h ⊢
    · exact (busRead_quiet h.1).trans (by rw [Quiet]; rfl)
    · exact busReadPair_quiet h.1 h.2.1
    · exact busReadPair_quiet h.1 h.2.1
  · simp only [hptr, decide_false, if_false, List.forall_mem_cons] at h ⊢
    exact busReadPair_quiet h.1 h.2.1

theorem returnFromInterrupt_quiet {s : State}
    (h : ∀ a ∈ [stackAddr (s.sp + 1), stackAddr (s.sp + 2), stackAddr (s.sp + 3)], s.io.claims a = false) :
    Quiet s (returnFromInterrupt s) := by
  simp only [List.forall_mem_cons] at h
  obtain ⟨h1, h2, h3, -⟩ := h
  have hstatus : Quiet s (pullStatus s) := (pull_quiet h1).trans (quiet_of_io_eq rfl)
  have hsp : (pullStatus s).sp = s.sp + 1 := by rw [pullStatus_eq]
  refine hstatus.trans (pullAddr_quiet ?_ ?_)
  · rw [hstatus.claims, hsp, sp_add_two]; exact h2
  · rw [hstatus.claims, hsp, sp_add_three]; exact h3

theorem plain_quiet (hi : Plain i) {s t : State} (hexec : exec i s = .next t)
    (h : ∀ a ∈ i.accesses s, s.io.claims a = false) : Quiet s t := by
  cases hi with
  | jmpInd ptr => cases hexec; exact (readJumpTarget_quiet h).trans (quiet_of_io_eq rfl)
  | rts =>
    cases hexec
    obtain ⟨h1, h2⟩ := List.forall_mem_cons.mp h
    exact (pullAddr_quiet h1 (h2 _ (List.mem_singleton_self _))).trans (quiet_of_io_eq rfl)
  | rti => cases hexec; exact returnFromInterrupt_quiet h
  | pha => cases hexec; exact (push_quiet (h _ (List.mem_singleton_self _)) _).trans (quiet_of_io_eq rfl)
  | php => cases hexec; exact (pushStatus_quiet (h _ (List.mem_singleton_self _)) _).trans (quiet_of_io_eq rfl)
  | pla => cases hexec; exact (pull_quiet (h _ (List.mem_singleton_self _))).trans (quiet_of_io_eq rfl)
  | plp => cases hexec; exact (pull_quiet (h _ (List.mem_singleton_self _))).trans (quiet_of_io_eq rfl)
  | _ => cases hexec; exact quiet_of_io_eq rfl

/-- An instruction none of whose accesses is at a VIA leaves the lines and devices. -/
theorem exec_quiet {s t : State} (hexec : exec i s = .next t) (h : ∀ a ∈ i.accesses s, s.io.claims a = false) :
    Quiet s t := by
  cases kind i with
  | reads o ho =>
    rw [exec_of_operand ho] at hexec
    cases hexec
    refine readMeaning_quiet i.op o (operandRead_quiet fun p hp => ?_)
    subst hp
    rw [accesses_of_operand ho] at h
    exact h
  | stores p hp =>
    rw [exec_of_place hp] at hexec
    cases hexec
    rw [accesses_of_place hp] at h
    have hea := ea_quiet h
    exact hea.trans (busWrite_quiet ((hea.claims _).trans (h _ (ea_mem_placeAccesses p s))) _)
  | modifies u hu =>
    rw [exec_of_target hu] at hexec
    cases hexec
    cases u with
    | acc => exact quiet_of_io_eq rfl
    | mem p =>
      rw [accesses_of_target hu] at h
      exact modify_quiet h _
  | branches disp hd =>
    rw [exec_of_displacement hd] at hexec
    cases hexec
    rw [branch_eq]
    exact quiet_of_io_eq rfl
  | jsr addr hi =>
    subst hi
    obtain ⟨-, rfl⟩ := unlessOntoItself_next.mp hexec
    obtain ⟨h0, h1⟩ := List.forall_mem_cons.mp h
    exact pushAddr_quiet h0 (h1 _ (List.mem_singleton_self _)) _
  | brk hi =>
    subst hi
    obtain ⟨-, rfl⟩ := unlessOntoItself_next.mp hexec
    obtain ⟨hframe, hvector⟩ := List.forall_mem_append.mp h
    obtain ⟨hlo, hhi⟩ := List.forall_mem_cons.mp hvector
    have hpush := pushFrame_quiet hframe true (s.pc + 2)
    rw [enterInterrupt_eq]
    exact hpush.trans (jumpThrough_quiet ((hpush.claims _).trans hlo)
      ((hpush.claims _).trans (hhi _ (List.mem_singleton_self _))))
  | plain hi => exact plain_quiet hi hexec h

/-! ### The charge -/

/-- Charging cycles changes nothing that an access at no VIA could see. -/
theorem busRead_charge {s : State} {a : Addr} (h : s.io.claims a = false) (n : Nat) :
    busRead (charge n s) a = ((busRead s a).1, charge n (busRead s a).2) := by
  have hclaims : (charge n s).io.claims a = false := by
    unfold charge
    split <;> exact h
  have hdraws : (charge n s).io.draws = s.io.draws := by
    unfold charge
    split <;> rfl
  unfold busRead
  rw [h, hclaims, charge_cfg, charge_mem, hdraws]
  cases kindAt s.cfg.map a with
  | ram => rfl
  | rom => rfl
  | unmapped => cases hv : s.cfg.viaTime <;> simp [charge, hv, Io.draw]

theorem claims_charge (n : Nat) (s : State) (a : Addr) : (charge n s).io.claims a = s.io.claims a := by
  unfold charge
  split <;> rfl

theorem readPointer_charge {s : State} {b : Byte} (hlo : s.io.claims (zext b) = false)
    (hhi : s.io.claims (zext (b + 1)) = false) (n : Nat) :
    (readPointer (charge n s) b).1 = (readPointer s b).1 := by
  have hhi' : (busRead s (zext b)).2.io.claims (zext (b + 1)) = false := ((busRead_quiet hlo).claims _).trans hhi
  simp only [readPointer, busReadPair, busRead_charge hlo, busRead_charge hhi']

theorem placeAccesses_charge {s : State} (h : ∀ a ∈ placeAccesses p s, s.io.claims a = false) (n : Nat) :
    placeAccesses p (charge n s) = placeAccesses p s := by
  cases p with
  | indx b =>
    obtain ⟨hlo, h⟩ := List.forall_mem_cons.mp h
    obtain ⟨hhi, -⟩ := List.forall_mem_cons.mp h
    simp only [placeAccesses, Place.ea, indexed_fst, charge_x, readPointer_charge hlo hhi]
  | indy b =>
    obtain ⟨hlo, h⟩ := List.forall_mem_cons.mp h
    obtain ⟨hhi, -⟩ := List.forall_mem_cons.mp h
    simp only [placeAccesses, Place.ea, indexed_fst, charge_y, readPointer_charge hlo hhi]
  | _ => simp only [placeAccesses, Place.ea, indexed_fst, charge_x, charge_y]

/-- The accesses without an operand in memory depend on the stack pointer and the parameters alone. -/
theorem accesses_congr (h : Plain i ∨ (∃ addr, i = .jsr addr) ∨ i = .brk) {s t : State} (hsp : t.sp = s.sp)
    (hcfg : t.cfg = s.cfg) : i.accesses t = i.accesses s := by
  obtain ⟨a, x, y, sp, pc, p, mem, io, cycles, cfg⟩ := s
  obtain ⟨a', x', y', sp', pc', p', mem', io', cycles', cfg'⟩ := t
  dsimp only at hsp hcfg
  subst hsp hcfg
  rcases h with h | ⟨addr, rfl⟩ | rfl
  · cases h <;> rfl
  · rfl
  · rfl

theorem accesses_charge {s : State} (h : ∀ a ∈ i.accesses s, s.io.claims a = false) (n : Nat) :
    i.accesses (charge n s) = i.accesses s := by
  have plain : (Plain i ∨ (∃ addr, i = .jsr addr) ∨ i = .brk) → i.accesses (charge n s) = i.accesses s :=
    fun hi => accesses_congr hi (charge_sp n s) (charge_cfg n s)
  cases kind i with
  | reads o ho =>
    cases o with
    | imm b => cases i <;> cases ho <;> rfl
    | mem p =>
      rw [accesses_of_operand ho] at h ⊢
      rw [accesses_of_operand ho, placeAccesses_charge h]
  | stores p hp =>
    rw [accesses_of_place hp] at h ⊢
    rw [accesses_of_place hp, placeAccesses_charge h]
  | modifies u hu =>
    cases u with
    | acc => cases i <;> cases hu <;> rfl
    | mem p =>
      rw [accesses_of_target hu] at h ⊢
      rw [accesses_of_target hu, placeAccesses_charge h]
  | branches disp hd => cases i <;> cases hd <;> rfl
  | jsr addr hi => exact plain (.inr (.inl ⟨addr, hi⟩))
  | brk hi => exact plain (.inr (.inr hi))
  | plain hi => exact plain (.inl hi)

/-! ### The step -/

theorem charge_free {s : State} (h : s.cfg.viaTime = .free) (n : Nat) :
    charge n s = { s with cycles := s.cycles + n } := by
  simp only [charge, h]

theorem charge_io_cycles {s : State} (h : s.cfg.viaTime = .cycles) (n : Nat) :
    (charge n s).io = { s.io with owed := n } := by
  simp only [charge, h]

/-- Where time is free there is no clock to settle. -/
theorem finish_exec_free {s : State} (h : s.cfg.viaTime = .free) (i : Instr) :
    finish (exec i s) = exec i s := by
  cases hexec : exec i s with
  | next t =>
    have hcfg : t.cfg.viaTime = .free := by rw [(frame_of_exec hexec).cfg, h]
    simp only [finish, settleClock, hcfg]
  | fault r => rfl
  | refused r => rfl

/-- Under `cycles` an instruction at no VIA leaves all its cycles to the end of the step. -/
theorem settleClock_of_quiet {s t : State} {n : Nat} (hcycles : t.cfg.viaTime = .cycles)
    (howed : s.io.owed = n) (hquiet : Quiet s t) :
    (settleClock t).io.vias = s.io.vias.map (Via.ticks n) ∧ (settleClock t).io.owed = 0 := by
  have hvias : t.io.vias = s.io.vias := by rw [hquiet]
  have hn : t.io.owed = n := by rw [hquiet]; exact howed
  simp only [settleClock, hcycles, Io.pay, ioTick_vias, ioTick_owed, hvias, hn, and_self]

/-- Settles O8: the fetch is the decoder; then the charge, the instruction and the clock. -/
theorem stepRunsTheDecodedInstruction : Obligations.StepRunsTheDecodedInstruction := by
  unfold Obligations.StepRunsTheDecodedInstruction
  intro s i rest hrun hmem hdecode _
  have hstep : step s = finish (exec i (ready i (arrive s))) := by
    have hfetch : fetch (arrive s) = .ok (i, arrive s) := fetch_memory hmem hdecode
    rw [Encoding.step_of_run hrun, runInstruction, hfetch]
  refine ⟨hstep, fun hfree => ?_, fun hcycles henv haccess hself => ?_⟩
  · rw [hstep, ready, charge_free (s := arrive s) hfree, finish_exec_free (by exact hfree)]
    rfl
  · have harrive : arrive s = s := Lines.arrive_of_env_nil henv
    rw [harrive] at hstep
    have hself' : i.ontoItself (ready i s) = false := by
      rw [Bool.eq_false_iff, Ne, Control.ontoItself_iff, ready, charge_pc, charge_sp, ← Control.ontoItself_iff, hself]
      exact Bool.false_ne_true
    obtain ⟨u, hu⟩ := Control.exec_completes hself'
    have hframe := frame_of_exec hu
    have hquiet : Quiet (ready i s) u := exec_quiet hu fun a ha => by
      rw [ready, accesses_charge haccess] at ha
      rw [ready, claims_charge]
      exact haccess a ha
    obtain ⟨hvias, howed⟩ := settleClock_of_quiet (n := instrCycles i s)
      (by rw [hframe.cfg, ready, charge_cfg, hcycles]) (by rw [ready, charge_io_cycles hcycles]) hquiet
    refine ⟨settleClock u, by rw [hstep, hu]; rfl, ?_, ?_, howed⟩
    · rw [hvias, ready, charge_io_cycles hcycles]
    · rw [settleClock_cycles, hframe.cycles, ready, charge_cycles]

end Sys2Proof.Proofs.Steps

/-! Execution times and reset (R42, R283, R340, R356, R359): the figures of Table I by operation code, the two
adjustments, and the reset sequence. -/

namespace Sys2Proof.Proofs.TimeAndReset

open Sys2Proof Sys2Proof.Machine
open Sys2Proof.Proofs.Kinds
open Sys2Proof.Proofs.IndexSteps (instrCycles_eq_baseCycles)
open Sys2Proof.Proofs.Addressing (add_zext_toNat peekPointer_toNat)

/-! ### The figures of Table I -/

/-- The figure that Table I gives an operation code, in the first row that lists it. -/
def figure (op : Byte) : Option Nat := (cyclesOfTableOne.find? fun row => row.2.contains op).map Prod.fst

theorem figure_opcode (i : Instr) : figure i.opcode = some (baseCycles i) := by
  cases i <;> rfl

/-- No operation code stands in two rows with different figures. -/
theorem figure_of_mem : ∀ row ∈ cyclesOfTableOne, ∀ op ∈ row.2, figure op = some row.1 := by decide

theorem head?_encode (i : Instr) : (encode i).head? = some i.opcode := rfl

theorem baseCycles_of_mem {row : Nat × List Byte} (hrow : row ∈ cyclesOfTableOne) {i : Instr} (h : i.opcode ∈ row.2) :
    baseCycles i = row.1 :=
  Option.some.inj ((figure_opcode i).symm.trans (figure_of_mem row hrow _ h))

theorem exists_row (i : Instr) : ∃ row ∈ cyclesOfTableOne, i.opcode ∈ row.2 := by
  obtain ⟨row, hfind, -⟩ := Option.map_eq_some_iff.mp (figure_opcode i)
  have hcontains := List.find?_some (p := fun row : Nat × List Byte => row.2.contains i.opcode) hfind
  exact ⟨row, List.mem_of_find?_eq_some hfind, by simpa using hcontains⟩

theorem baseCycles_bounds (i : Instr) : 2 ≤ baseCycles i ∧ baseCycles i ≤ 7 := by
  have rows : ∀ row ∈ cyclesOfTableOne, 2 ≤ row.1 ∧ row.1 ≤ 7 := by decide
  obtain ⟨row, hrow, hop⟩ := exists_row i
  rw [baseCycles_of_mem hrow hop]
  exact rows row hrow

/-! ### Branches -/

variable {i : Instr}

theorem instrCycles_of_displacement {disp : Byte} (h : i.displacement = some disp) (s : State) :
    instrCycles i s =
      2 + if branchTaken i s.p then (if pageDiffers (s.pc + 2 + sext disp) (s.pc + 2) then 2 else 1) else 0 := by
  have hbase : baseCycles i = 2 := by cases i <;> cases h <;> rfl
  have hstar : starred i = false := by cases i <;> cases h <;> rfl
  have hbytes : i.operandBytes = [disp] := by cases i <;> cases h <;> rfl
  simp only [instrCycles, branchCycles, hbase, hstar, hbytes, Bool.false_and, Bool.false_eq_true, if_false,
    Nat.add_zero]

theorem branchTaken_of_no_displacement (h : i.displacement = none) (p : Flags) : branchTaken i p = false := by
  cases i with
  | bcc disp | bcs disp | beq disp | bmi disp | bne disp | bpl disp | bvc disp | bvs disp => cases h
  | _ => rfl

theorem instrCycles_of_no_displacement (h : i.displacement = none) (s : State) :
    instrCycles i s = baseCycles i + if starred i && crossesPage i s then 1 else 0 := by
  simp only [instrCycles, branchCycles, branchTaken_of_no_displacement h, Bool.false_eq_true, if_false, Nat.add_zero]

/-! ### Indexed reads -/

/-- R97: the index carries into the high-order byte. -/
theorem pageDiffers_add (a : Addr) (r : Byte) :
    pageDiffers (a + zext r) a = decide (255 < a.toNat % 256 + r.toNat) := by
  have ha := a.isLt
  have hr := r.isLt
  have hpage : hiByte (a + zext r) ≠ hiByte a ↔ 255 < a.toNat % 256 + r.toNat := by
    rw [ne_eq, ← BitVec.toNat_inj, hiByte_toNat, hiByte_toNat, add_zext_toNat]
    omega
  rw [Bool.eq_iff_iff, decide_eq_true_eq, ← hpage, pageDiffers, bne_iff_ne]

/-- The addressing modes whose reads can take a cycle more (R356). -/
theorem operand_of_starred (h : starred i = true) :
    (∃ addr, i.operand = some (.mem (.absx addr))) ∨ (∃ addr, i.operand = some (.mem (.absy addr))) ∨
    (∃ zp, i.operand = some (.mem (.indy zp))) := by
  cases i <;>
    first
    | exact .inl ⟨_, rfl⟩
    | exact .inr (.inl ⟨_, rfl⟩)
    | exact .inr (.inr ⟨_, rfl⟩)
    | cases h

theorem no_displacement_of_operand {o : Operand} (h : i.operand = some o) : i.displacement = none := by
  cases i <;> cases h <;> rfl

/-- A read in one of those modes: its figure is at most 5, and the adjustment is by the page. -/
theorem instrCycles_of_starred {base : Addr} {r : Byte} {s : State} (hd : i.displacement = none)
    (hstar : starred i = true) (hcross : crossesPage i s = pageDiffers (base + zext r) base) :
    instrCycles i s = baseCycles i + if 255 < base.toNat % 256 + r.toNat then 1 else 0 := by
  rw [instrCycles_of_no_displacement hd, hstar, hcross, pageDiffers_add]
  simp only [Bool.true_and, decide_eq_true_eq]

theorem instrCycles_absx {addr : Addr} (h : i.operand = some (.mem (.absx addr))) (s : State) :
    instrCycles i s = baseCycles i + if 255 < addr.toNat % 256 + s.x.toNat then 1 else 0 := by
  have hmode : i.mode = .absoluteX := by cases i <;> cases h <;> rfl
  have hbytes : i.operandBytes = [loByte addr, hiByte addr] := by cases i <;> cases h <;> rfl
  refine instrCycles_of_starred (no_displacement_of_operand h) (by cases i <;> cases h <;> rfl) ?_
  simp only [crossesPage, hmode, hbytes, mkAddr_hiByte_loByte]

theorem instrCycles_absy {addr : Addr} (h : i.operand = some (.mem (.absy addr))) (s : State) :
    instrCycles i s = baseCycles i + if 255 < addr.toNat % 256 + s.y.toNat then 1 else 0 := by
  have hmode : i.mode = .absoluteY := by cases i <;> cases h <;> rfl
  have hbytes : i.operandBytes = [loByte addr, hiByte addr] := by cases i <;> cases h <;> rfl
  refine instrCycles_of_starred (no_displacement_of_operand h) (by cases i <;> cases h <;> rfl) ?_
  simp only [crossesPage, hmode, hbytes, mkAddr_hiByte_loByte]

theorem instrCycles_indy {zp : Byte} (h : i.operand = some (.mem (.indy zp))) (s : State) :
    instrCycles i s = baseCycles i + if 255 < (s.mem.read (zext zp)).toNat + s.y.toNat then 1 else 0 := by
  have hmode : i.mode = .indirectIndexed := by cases i <;> cases h <;> rfl
  have hbytes : i.operandBytes = [zp] := by cases i <;> cases h <;> rfl
  have hlow : (peekPointer s zp).toNat % 256 = (s.mem.read (zext zp)).toNat := by
    rw [peekPointer_toNat]
    omega
  rw [← hlow]
  refine instrCycles_of_starred (no_displacement_of_operand h) (by cases i <;> cases h <;> rfl) ?_
  simp only [crossesPage, hmode, hbytes]

theorem baseCycles_of_starred (h : starred i = true) : baseCycles i ≤ 5 := by
  cases i <;> first | exact Nat.le_of_ble_eq_true rfl | cases h

theorem instrCycles_bounds (i : Instr) (s : State) : 2 ≤ instrCycles i s ∧ instrCycles i s ≤ 7 := by
  cases hd : i.displacement with
  | some disp =>
    rw [instrCycles_of_displacement hd]
    split
    · split <;> decide
    · decide
  | none =>
    have hbase := baseCycles_bounds i
    rw [instrCycles_of_no_displacement hd]
    cases hstar : starred i with
    | false => simpa using hbase
    | true =>
      have := baseCycles_of_starred hstar
      split <;> omega

/-- A write to memory is never a read with an adjustment, nor a branch. -/
theorem not_adjusted_of_writes (h : i.writesMemory = true ∨ i.target ≠ none) :
    starred i = false ∧ i.displacement = none := by
  cases kind i with
  | reads o ho =>
    have hnone : i.writesMemory = false ∧ i.target = none := by cases i <;> cases ho <;> exact ⟨rfl, rfl⟩
    simp [hnone.1, hnone.2] at h
  | stores p hp => cases i <;> cases hp <;> exact ⟨rfl, rfl⟩
  | modifies t ht => cases i <;> cases ht <;> exact ⟨rfl, rfl⟩
  | branches disp hd =>
    have hnone : i.writesMemory = false ∧ i.target = none := by cases i <;> cases hd <;> exact ⟨rfl, rfl⟩
    simp [hnone.1, hnone.2] at h
  | jsr addr hi => subst hi; exact ⟨rfl, rfl⟩
  | brk hi => subst hi; exact ⟨rfl, rfl⟩
  | plain hi => cases hi <;> exact ⟨rfl, rfl⟩

/-- Settles O45: the table by operation code; then the two adjustments, which exclude each other. -/
theorem executionTimes : Obligations.ExecutionTimes := by
  unfold Obligations.ExecutionTimes
  refine ⟨instrCycles_bounds, ?figures, ?listed, ?branches, ?indexed, ?others, ?writes⟩
  case figures =>
    intro row hrow op hop i hi
    obtain rfl : i.opcode = op := Option.some.inj hi
    exact baseCycles_of_mem hrow hop
  case listed =>
    intro i
    obtain ⟨row, hrow, hop⟩ := exists_row i
    exact ⟨row, hrow, i.opcode, hop, head?_encode i⟩
  case branches =>
    intro i disp s t hd hexec
    rw [exec_of_displacement hd, branch_eq] at hexec
    cases hexec
    rw [instrCycles_of_displacement hd]
    cases branchTaken i s.p with
    | false => rfl
    | true =>
      simp only [if_true, pageDiffers, bne_iff_ne, ite_not]
      split <;> rfl
  case indexed =>
    intro i s addr zp
    exact ⟨fun h => instrCycles_absx h s, fun h => instrCycles_absy h s, fun h => instrCycles_indy h s⟩
  case others =>
    intro i s hd habs hindy
    refine instrCycles_eq_baseCycles ?_ (branchTaken_of_no_displacement hd s.p)
    by_contra hstar
    rcases operand_of_starred (Bool.of_not_eq_false hstar) with ⟨addr, h⟩ | ⟨addr, h⟩ | ⟨zp, h⟩
    · exact (habs addr).1 h
    · exact (habs addr).2 h
    · exact hindy zp h
  case writes =>
    intro i s h
    obtain ⟨hstar, hd⟩ := not_adjusted_of_writes h
    exact instrCycles_eq_baseCycles hstar (branchTaken_of_no_displacement hd s.p)

/-! ### Reset -/

/-- The part of the reset sequence before the vector is taken: free registers, I set, the lines and devices reset. -/
def resetRegisters (s : State) : State :=
  let d := s.io.draws
  { s with
    a := Config.anyByte d, x := Config.anyByte (d + 1), y := Config.anyByte (d + 2), sp := Config.anyByte (d + 3)
    p := { n := Config.anyBit d, v := Config.anyBit (d + 1), b := Config.anyBit (d + 2)
           d := Config.anyBit (d + 3), i := true, z := Config.anyBit (d + 4), c := Config.anyBit (d + 5) }
    io := s.io.afterReset }

theorem afterReset_bases (io : Io) : io.afterReset.vias.map Via.base = io.vias.map Via.base :=
  resetVias_bases _ io.vias

/-- Settles O43: the vector is read after the VIAs' reset, which leaves memory and the addresses of the VIAs. -/
theorem resetSequenceStarts : Obligations.ResetSequenceStarts := by
  unfold Obligations.ResetSequenceStarts
  intro s hlo hhi
  have hmemory : ∀ a, (resetRegisters s).isMemory a = s.isMemory a := isMemory_congr rfl (afterReset_bases s.io)
  have hsequence : resetSequence s =
      { resetRegisters s with pc := mkAddr (s.mem.read 0xFFFD) (s.mem.read 0xFFFC) } := by
    have hthrough : jumpThrough resetVector (resetRegisters s) =
        { resetRegisters s with pc := mkAddr (s.mem.read 0xFFFD) (s.mem.read 0xFFFC) } :=
      jumpThrough_memory ((hmemory _).trans hlo) ((hmemory _).trans hhi)
    exact hthrough
  rw [hsequence]
  exact ⟨rfl, rfl, rfl, rfl, fun _ => rfl, rfl, afterReset_bases s.io, rfl,
    Invariants.forall_resetVias (fun _ _ => ⟨rfl, rfl, rfl, rfl, rfl, rfl⟩) _ _⟩

/-- Settles O44: a look at the one state that `State.reset` is. -/
theorem resetState : Obligations.ResetState := by
  unfold Obligations.ResetState
  exact ⟨rfl, rfl, rfl, rfl, List.forall_mem_singleton.mpr ⟨rfl, rfl, rfl, rfl, rfl, rfl, rfl⟩⟩

end Sys2Proof.Proofs.TimeAndReset

/-! The registers of a VIA as the CPU accesses them (R281 to R318): which address selects which register, what an
access of each does as one equation, and what that says about the map, timer 1's load, the interrupt registers and the
reset. -/

namespace Sys2Proof.Proofs.ViaRegisters

open Sys2Proof Sys2Proof.Machine
open Sys2Proof.Proofs.Lines (move_of_env_nil)

/-! ### The map of the registers -/

/-- The sixteen registers in the order of R281's table. -/
def registers : List ViaReg :=
  [.orb, .ora, .ddrb, .ddra, .t1cL, .t1cH, .t1lL, .t1lH, .t2cL, .t2cH, .sr, .acr, .pcr, .ifr, .ier, .oraNoHandshake]

theorem selectReg_eq (base a : Addr) : selectReg base a = registers[(a - base).toNat]? := by
  unfold selectReg
  match (a - base).toNat with
  | 0 | 1 | 2 | 3 | 4 | 5 | 6 | 7 | 8 | 9 | 10 | 11 | 12 | 13 | 14 | 15 => rfl
  | _ + 16 => rfl

theorem selectReg_base_add (base : Addr) {k : Nat} (hk : k < 65536) :
    selectReg base (base + BitVec.ofNat 16 k) = registers[k]? := by
  rw [selectReg_eq, add_sub_cancel_left, BitVec.toNat_ofNat, Nat.mod_eq_of_lt hk]

theorem offset_lt_of_selectReg {base a : Addr} {r : ViaReg} (h : selectReg base a = some r) :
    (a.toNat + 65536 - base.toNat) % 65536 < 16 := by
  rw [selectReg_eq] at h
  obtain ⟨hlt, -⟩ := List.getElem?_eq_some_iff.mp h
  have hlength : registers.length = 16 := rfl
  have hbase := base.isLt
  rw [hlength, BitVec.toNat_sub] at hlt
  omega

theorem settle_of_quiet {cfg : Config} {io : Io} (henv : io.env = []) (hfree : cfg.viaTime = .free) :
    io.settle cfg = io := by
  simp only [Io.settle, hfree, move_of_env_nil _ henv]

theorem claims_of_selectReg {io : Io} {front rest : List Via} {v : Via} {a : Addr} {r : ViaReg}
    (hvias : io.vias = front ++ v :: rest) (hr : selectReg v.base a = some r) : io.claims a = true := by
  rw [Io.claims, hvias, List.any_append, List.any_cons, hr, Option.isSome_some, Bool.true_or, Bool.or_true]

/-- Settles O46: the select function is a list lookup; a bus access at a claimed address is the first VIA's. -/
theorem viaRegistersAnswerOnTheBus : Obligations.ViaRegistersAnswerOnTheBus := by
  unfold Obligations.ViaRegistersAnswerOnTheBus
  refine ⟨fun base k hk => selectReg_base_add base hk, ?_⟩
  intro s front v rest a r b henv hfree hvias hfront hr
  have hclaims := claims_of_selectReg hvias hr
  have hsettle := settle_of_quiet henv hfree
  refine ⟨?read, ?write, offset_lt_of_selectReg hr⟩
  case read =>
    simp only [busRead, hclaims, if_true, Io.readReg, hsettle, hvias, viasRead_first hr _ _ _ hfront, Io.draw]
  case write =>
    simp only [busWrite, hclaims, if_true, Io.writeReg, hsettle, hvias, viasWrite_first hr _ _ _ _ hfront, Io.draw]

/-! ### The timers' high-order bytes -/

/-- PB7 goes low at a load exactly when timer 1 drives it. -/
theorem write_t1cH (b : Byte) (d : Nat) (v : Via) :
    v.write .t1cH b d =
      { v with
        ifr := v.ifr &&& ~~~flagBit t1Flag
        t1 := { v.t1 with
                latchHigh := b, counter := mkAddr b v.t1.latchLow, isOpen := false, armed := true
                zeroElapsed := Config.anyBit d, countsOn := Config.anyBit (d + 1)
                pb7 := v.t1.pb7 && !v.drivesPb7 } } := by
  have hpb7 : (if v.drivesPb7 = true then false else v.t1.pb7) = (v.t1.pb7 && !v.drivesPb7) := by
    cases v.drivesPb7 <;> simp
  rw [← hpb7]
  rfl

theorem write_t2cH (b : Byte) (d : Nat) (v : Via) :
    v.write .t2cH b d =
      { v with
        ifr := v.ifr &&& ~~~flagBit t2Flag
        t2 := { v.t2 with
                counter := mkAddr b v.t2.latchLow, isOpen := false, zeroElapsed := Config.anyBit d } } := rfl

/-- A timer loaded with `hi` finds `lo` in its latch. -/
theorem loaded_t1 (v : Via) (lo hi : Byte) (d : Nat) :
    (v.write .t1cL lo d).write .t1cH hi d =
      { v with
        ifr := v.ifr &&& ~~~flagBit t1Flag
        t1 := { v.t1 with
                latchLow := lo, latchHigh := hi, counter := mkAddr hi lo, isOpen := false, armed := true
                zeroElapsed := Config.anyBit d, countsOn := Config.anyBit (d + 1)
                pb7 := v.t1.pb7 && !v.drivesPb7 } } := by
  rw [write_t1cH]
  rfl

theorem flag_clearFlag_self {k : Nat} (hk : k < 7) (v : Via) : (v.clearFlag k).flag k = false := by
  rw [flag_clearFlag k k v hk, decide_eq_true rfl, Bool.not_true, Bool.and_false]

theorem readValue_t1cL {v : Via} (h : v.t1.isOpen = false) (d : Nat) : v.readValue .t1cL d = loByte v.t1.counter := by
  rw [Via.readValue, h, if_neg Bool.false_ne_true]

theorem readValue_t1cH {v : Via} (h : v.t1.isOpen = false) (d : Nat) : v.readValue .t1cH d = hiByte v.t1.counter := by
  rw [Via.readValue, h, if_neg Bool.false_ne_true]

theorem readValue_t2cL {v : Via} (h : v.t2.isOpen = false) (d : Nat) : v.readValue .t2cL d = loByte v.t2.counter := by
  rw [Via.readValue, h, if_neg Bool.false_ne_true]

theorem readValue_t2cH {v : Via} (h : v.t2.isOpen = false) (d : Nat) : v.readValue .t2cH d = hiByte v.t2.counter := by
  rw [Via.readValue, h, if_neg Bool.false_ne_true]

/-- Settles O51: the two writes as one load; a counter that is not open reads as its two bytes. -/
theorem timer1Load : Obligations.Timer1Load := by
  unfold Obligations.Timer1Load
  intro v lo hi d
  rw [loaded_t1]
  refine ⟨rfl, rfl, rfl, flag_clearFlag_self (by decide) v, ?readLow, ?readHigh, ?reads, ?pb7, rfl, rfl, rfl, rfl⟩
  case readLow => exact (readValue_t1cL rfl d).trans (loByte_mkAddr hi lo)
  case readHigh => exact (readValue_t1cH rfl d).trans (hiByte_mkAddr hi lo)
  case reads =>
    intro hopen
    rw [readValue_t1cL hopen, readValue_t1cH hopen]
    exact ⟨loByte_toNat _, hiByte_toNat _⟩
  case pb7 =>
    intro hdrives
    simp only [hdrives, Bool.not_true, Bool.and_false]

/-! ### IFR and IER -/

theorem irqActive_iff (v : Via) :
    v.irqActive = true ↔ ∃ k, k < 7 ∧ v.ifr.getLsbD k = true ∧ v.ier.getLsbD k = true := by
  rw [Via.irqActive, bne_iff_ne, ne_eq, BitVec.eq_of_getLsbD_eq_iff]
  simp

theorem irqLow_iff (io : Io) : io.irqLow = true ↔ io.irqLine = false ∨ ∃ v ∈ io.vias, v.irqActive = true := by
  rw [Io.irqLow, Bool.or_eq_true, Bool.not_eq_true', List.any_eq_true]

/-- A byte made of one bit above a word of flags. -/
theorem append_flags_getLsbD (x : BitVec 1) (y : BitVec 7) {k : Nat} (hk : k < 7) :
    (x ++ y).getLsbD k = y.getLsbD k := by
  rw [BitVec.getLsbD_append, if_pos (by simpa using hk)]

theorem append_flags_getLsbD_seven (x : BitVec 1) (y : BitVec 7) : (x ++ y).getLsbD 7 = x.getLsbD 0 := by
  rw [BitVec.getLsbD_append, if_neg (by decide)]

theorem readValue_ifr_seven (v : Via) (d : Nat) : (v.readValue .ifr d).getLsbD 7 = v.irqActive := by
  refine (append_flags_getLsbD_seven (BitVec.ofBool v.irqActive) v.ifr).trans ?_
  rw [BitVec.getLsbD_ofBool, decide_eq_true rfl, Bool.true_and]

/-- Settles O58: a conjunction of two words is not zero exactly when they share a bit. -/
theorem irqOutputFollowsFlagsAndEnables : Obligations.IrqOutputFollowsFlagsAndEnables := by
  unfold Obligations.IrqOutputFollowsFlagsAndEnables
  exact ⟨irqActive_iff, readValue_ifr_seven, irqLow_iff⟩

theorem write_ifr (b : Byte) (d : Nat) (v : Via) :
    v.write .ifr b d = { v with ifr := v.ifr &&& ~~~b.extractLsb' 0 7 } := rfl

theorem write_ier (b : Byte) (d : Nat) (v : Via) :
    v.write .ier b d =
      { v with ier := if b.getLsbD 7 then v.ier ||| b.extractLsb' 0 7 else v.ier &&& ~~~b.extractLsb' 0 7 } := rfl

/-- The low seven bits of a byte, one by one. -/
theorem flags_of_byte_getLsbD (b : Byte) {k : Nat} (hk : k < 7) : (b.extractLsb' 0 7).getLsbD k = b.getLsbD k := by
  rw [BitVec.getLsbD_extractLsb', decide_eq_true hk, Bool.true_and, Nat.zero_add]

/-- Settles O59: bit by bit. -/
theorem interruptRegisters : Obligations.InterruptRegisters := by
  unfold Obligations.InterruptRegisters
  intro v b d k hk
  refine ⟨?flag, rfl, append_flags_getLsbD _ _ hk, ?enable, rfl, append_flags_getLsbD _ _ hk,
    append_flags_getLsbD_seven _ _, rfl, rfl⟩
  case flag =>
    simp only [write_ifr, Via.flag, BitVec.getLsbD_and, BitVec.getLsbD_not, flags_of_byte_getLsbD b hk, hk, decide_true,
      Bool.true_and]
  case enable =>
    rw [write_ier]
    cases hset : b.getLsbD 7 with
    | true => cases hbit : b.getLsbD k <;> simp [flags_of_byte_getLsbD b hk, hbit]
    | false => cases hbit : b.getLsbD k <;> simp [hbit, hk]

/-- Settles O60: a look at the record that `Via.reset` makes, and ACR's fields at zero. -/
theorem viaResetClears : Obligations.ViaResetClears := by
  unfold Obligations.ViaResetClears
  intro v d
  have hirq : (v.reset d).irqActive = false := by simp [Via.irqActive, Via.reset]
  have hzero : ∀ k, (v.reset d).acr.getLsbD k = false := fun _ => BitVec.getLsbD_zero
  have hmode : shiftMode (v.reset d).acr = 0 := show shiftMode 0 = 0 by decide
  exact ⟨rfl, rfl, rfl, rfl, rfl, rfl, hirq, rfl, hzero 0, hzero 1, hmode, hzero 5, hzero 6, hzero 7⟩

end Sys2Proof.Proofs.ViaRegisters

/-! What the CPU's accesses of the ports, the shift register, ACR and PCR do (R286 to R291, R303, R305, R306, R318):
each access as one equation on the whole VIA, the flags it resets, and the pins bit by bit. -/

namespace Sys2Proof.Proofs.ViaPorts

open Sys2Proof Sys2Proof.Machine
open Sys2Proof.Proofs.ViaRegisters

/-! ### The accesses as equations -/

/-- The control lines of a side after an access that starts a handshake or a pulse. -/
def startedC2 (side : Side) (v : Via) : Control :=
  { v.ctl side with
    c2Out := (v.ctl side).c2Out && !((v.bits side).getLsbD 3 && !(v.bits side).getLsbD 2 && v.pcrActive side) }

theorem startC2_clearPortFlags (side : Side) (v : Via) :
    (v.clearPortFlags side).startC2 side =
      { v with ifr := (v.clearPortFlags side).ifr }.setCtl side (startedC2 side v) := by
  rw [startC2_eq, clearPortFlags_eq]
  cases side <;> rfl

theorem readEffect_orb (v : Via) (d : Nat) :
    v.readEffect .orb d = { v with portB := { v.portB with latched := false }, ifr := (v.clearPortFlags .b).ifr } := by
  rw [Via.readEffect, clearPortFlags_eq]
  rfl

theorem readEffect_ora (v : Via) (d : Nat) :
    v.readEffect .ora d =
      { v with
        portA := { v.portA with latched := false }, ctlA := startedC2 .a v, ifr := (v.clearPortFlags .a).ifr } := by
  rw [Via.readEffect, startC2_clearPortFlags]
  rfl

theorem readEffect_oraNoHandshake (v : Via) (d : Nat) :
    v.readEffect .oraNoHandshake d =
      { v with portA := { v.portA with latched := false }, ifr := (v.maybeClearPortA d).ifr } := by
  rw [Via.readEffect, maybeClearPortA_eq]
  rfl

theorem write_orb (v : Via) (b : Byte) (d : Nat) :
    v.write .orb b d =
      { v with portB := { v.portB with out := b }, ctlB := startedC2 .b v, ifr := (v.clearPortFlags .b).ifr } := by
  rw [Via.write, startC2_clearPortFlags]
  rfl

theorem write_ora (v : Via) (b : Byte) (d : Nat) :
    v.write .ora b d =
      { v with portA := { v.portA with out := b }, ctlA := startedC2 .a v, ifr := (v.clearPortFlags .a).ifr } := by
  rw [Via.write, startC2_clearPortFlags]
  rfl

theorem write_oraNoHandshake (v : Via) (b : Byte) (d : Nat) :
    v.write .oraNoHandshake b d =
      { v with portA := { v.portA with out := b }, ifr := (v.maybeClearPortA d).ifr } := by
  rw [Via.write, maybeClearPortA_eq]
  rfl

/-- PCR acts on CA2 in every mode. -/
theorem startedC2_a (v : Via) :
    startedC2 .a v =
      { v.ctlA with
        c2Out := v.ctlA.c2Out && !((sideBits v.pcr .a).getLsbD 3 && !(sideBits v.pcr .a).getLsbD 2) } := by
  rw [startedC2, Via.pcrActive, Bool.and_true]
  rfl

theorem release_unless (latching : Bool) (p : Port) :
    (if latching then p else p.release) = { p with latched := p.latched && latching } := by
  cases latching
  · rw [Bool.and_false]
    rfl
  · rw [Bool.and_true]
    rfl

/-- A write of ACR (R291, R304, R305), the shift register's new count and levels apart. -/
theorem write_acr (v : Via) (b : Byte) (d : Nat) :
    v.write .acr b d =
      { v with
        acr := b
        portA := { v.portA with latched := v.portA.latched && b.getLsbD 0 }
        portB := { v.portB with latched := v.portB.latched && b.getLsbD 1 }
        ctlB := c2AfterShift (shiftMode v.acr) (shiftMode b) (d + 3) v.ctlB
        t1 := { v.t1 with pb7 := if b.getLsbD 7 && !v.acr.getLsbD 7 then Config.anyBit d else v.t1.pb7 }
        shifter :=
          { sr := v.shifter.sr
            left := shiftsAfterModeChange (shiftMode v.acr) (shiftMode b) d v.shifter.left
            dataOut := if shiftMode v.acr == shiftMode b then v.shifter.dataOut else Config.anyBit (d + 1)
            clockOut := if shiftMode v.acr == shiftMode b then v.shifter.clockOut else Config.anyBit (d + 2) }
        ifr := if shiftMode b == 0 then v.ifr &&& ~~~flagBit srFlag else v.ifr } := by
  rw [← release_unless, ← release_unless]
  have hpb7 : ∀ x : Bool, (if x then { v.t1 with pb7 := Config.anyBit d } else v.t1) =
      { v.t1 with pb7 := if x then Config.anyBit d else v.t1.pb7 } := by
    intro x
    cases x <;> rfl
  rw [← hpb7, Via.write, Via.writeAcr]
  cases shiftMode b == 0 <;> rfl

/-! ### The flags that an access resets -/

theorem flag_clearPortFlags_of_bits (side : Side) (v : Via) {k : Nat} (hk : k < 7) :
    (v.clearPortFlags side).flag k =
      (!(decide (k = c1Flag side) ||
        (decide (k = c2Flag side) && !(c2Independent (v.bits side) && v.pcrActive side))) && v.flag k) := by
  have reorder : ∀ f x y p q : Bool, (f && !x && (p && q || !y)) = (!(x || (y && !(q && p))) && f) := by decide
  rw [flag_clearPortFlags side k v hk, Via.independent, reorder, decide_eq_decide.mpr (eq_comm (a := c1Flag side)),
    decide_eq_decide.mpr (eq_comm (a := c2Flag side))]

theorem flag_maybeClearPortA (v : Via) (d : Nat) {k : Nat} (hk : k < 7) :
    (v.maybeClearPortA d).flag k =
      (v.flag k && !(Config.anyBit d && decide (c1Flag .a = k)) &&
        !(Config.anyBit (d + 1) && !c2Independent (v.bits .a) && decide (c2Flag .a = k))) := by
  have hfirst : (if Config.anyBit d then v.clearFlag (c1Flag .a) else v).flag k =
      (v.flag k && !(Config.anyBit d && decide (c1Flag .a = k))) := by
    cases Config.anyBit d <;> simp [hk]
  rw [← hfirst, Via.maybeClearPortA]
  cases Config.anyBit (d + 1) && !c2Independent (v.bits .a) <;> simp [hk]

/-- R318 (log entry 35): an access through register $F can reset no flag but those of CA1 and CA2. -/
theorem flag_maybeClearPortA_cases (v : Via) (d : Nat) {k : Nat} (hk : k < 7) :
    ((v.maybeClearPortA d).flag k = true → v.flag k = true) ∧
    (k ≠ 0 → k ≠ 1 → (v.maybeClearPortA d).flag k = v.flag k) ∧
    (k = 0 → c2Independent (sideBits v.pcr .a) = true → (v.maybeClearPortA d).flag k = v.flag k) := by
  rw [flag_maybeClearPortA v d hk]
  refine ⟨?set, ?other, ?independent⟩
  case set =>
    intro h
    simp only [Bool.and_eq_true] at h
    exact h.1.1
  case other =>
    intro h0 h1
    simp [c1Flag, c2Flag, h0.symm, h1.symm]
  case independent =>
    intro h0 hind
    subst h0
    have hbits : c2Independent (v.bits .a) = true := hind
    simp [c1Flag, hbits]

theorem flag_clearFlag_eq (v : Via) {j k : Nat} (hk : k < 7) :
    (v.clearFlag j).flag k = (!decide (k = j) && v.flag k) := by
  rw [flag_clearFlag j k v hk, Bool.and_comm, decide_eq_decide.mpr eq_comm]

/-! ### The pins, bit by bit -/

theorem pins_a_getLsbD (v : Via) {k : Nat} (hk : k < 8) :
    (v.pins .a).getLsbD k =
      if v.portA.forced.getLsbD k then v.portA.level.getLsbD k
      else if v.portA.ddr.getLsbD k then v.portA.out.getLsbD k else true :=
  pins_getLsbD v.portA.out v.portA k hk

theorem pins_b_getLsbD (v : Via) {k : Nat} (hk : k < 8) :
    (v.pins .b).getLsbD k =
      if v.portB.forced.getLsbD k then v.portB.level.getLsbD k
      else if v.portB.ddr.getLsbD k then
        (if k = 7 && v.acr.getLsbD 7 then v.t1.pb7 else v.portB.out.getLsbD k)
      else true := by
  refine (pins_getLsbD (v.driven .b) v.portB k hk).trans ?_
  rw [driven_b_getLsbD v k hk]
  rfl

theorem pins_of_input {p : Port} {k : Nat} (hk : k < 8) (hin : p.ddr.getLsbD k = false) (driven : Byte) :
    (p.pins driven).getLsbD k = if p.forced.getLsbD k then p.level.getLsbD k else true := by
  rw [pins_getLsbD driven p k hk, hin, if_neg Bool.false_ne_true]

/-- One bit of a read of port B: an output bit is the bit of ORB. -/
theorem readB_getLsbD (p : Port) (latching : Bool) (driven : Byte) {k : Nat} (hk : k < 8) :
    (p.readB latching driven).getLsbD k =
      if p.ddr.getLsbD k then p.out.getLsbD k
      else (if latching && p.latched then p.latch else p.pins driven).getLsbD k := by
  simp only [Port.readB, BitVec.getLsbD_or, BitVec.getLsbD_and, BitVec.getLsbD_not, hk]
  cases p.ddr.getLsbD k <;> simp

theorem readB_of_output {p : Port} {k : Nat} (hk : k < 8) (hout : p.ddr.getLsbD k = true) (latching : Bool)
    (driven : Byte) : (p.readB latching driven).getLsbD k = p.out.getLsbD k := by
  rw [readB_getLsbD p latching driven hk, hout, if_pos rfl]

theorem readB_of_input {p : Port} {k : Nat} (hk : k < 8) (hin : p.ddr.getLsbD k = false) (latching : Bool)
    (driven : Byte) :
    (p.readB latching driven).getLsbD k =
      (if latching && p.latched then p.latch else p.pins driven).getLsbD k := by
  rw [readB_getLsbD p latching driven hk, hin, if_neg Bool.false_ne_true]

theorem latched_eq_true_of_not {x y : Bool} (h : ¬ (x = false ∨ y = false)) : (x && y) = true :=
  Bool.of_not_eq_false fun hfalse => h (Bool.and_eq_false_iff.mp hfalse)

/-- Settles O47: the accesses by their equations; the values read bit by bit. -/
theorem portsReadTheirPins : Obligations.PortsReadTheirPins := by
  unfold Obligations.PortsReadTheirPins
  intro v b k d hk
  rw [write_orb, write_ora, readEffect_orb]
  refine ⟨rfl, rfl, rfl, rfl, ?drivenB, ?drivenA, rfl, rfl, ?released, ?input, ?outputB, ?inputB, ?readA, ?latchedA,
    ?latchedB⟩
  case drivenB =>
    intro hforced hout hpb7
    have hnot : ¬ (decide (k = 7) && v.acr.getLsbD 7) = true := by
      intro h
      rw [Bool.and_eq_true, decide_eq_true_eq] at h
      obtain ⟨h7, hdrives⟩ := h
      exact Bool.false_ne_true ((hpb7 h7).symm.trans hdrives)
    rw [pins_b_getLsbD _ hk]
    simp only [hforced, hout, Bool.false_eq_true, if_false, if_true, hnot]
  case drivenA =>
    intro hforced hout
    rw [pins_a_getLsbD _ hk]
    simp only [hforced, hout, Bool.false_eq_true, if_false, if_true]
  case released =>
    simp only [List.forall_mem_cons, List.not_mem_nil, false_implies, implies_true, and_true]
    rw [readEffect_ora, readEffect_oraNoHandshake]
    exact ⟨⟨rfl, rfl⟩, ⟨rfl, rfl⟩⟩
  case input => exact fun p hin => pins_of_input hk hin
  case outputB => exact fun hout => readB_of_output hk hout _ _
  case inputB =>
    intro hin hunlatched
    refine (readB_of_input hk hin _ _).trans ?_
    rw [show (v.latching .b && v.portB.latched) = false from Bool.and_eq_false_iff.mpr hunlatched,
      if_neg Bool.false_ne_true]
    exact pins_of_input hk hin _
  case readA =>
    intro hunlatched
    have hlatch : (v.latching .a && v.portA.latched) = false := Bool.and_eq_false_iff.mpr hunlatched
    rw [Via.readValue, Port.readA, hlatch, if_neg Bool.false_ne_true]
    exact pins_a_getLsbD v hk
  case latchedA =>
    intro hlatched
    exact if_pos (latched_eq_true_of_not hlatched)
  case latchedB =>
    intro hin hlatched
    refine (readB_of_input hk hin _ _).trans ?_
    rw [show (v.latching .b && v.portB.latched) = true from latched_eq_true_of_not hlatched, if_pos rfl]

/-- Settles O48: the frame of each access by its equation, and flag by flag what it resets. -/
theorem accessesResetFlags : Obligations.AccessesResetFlags := by
  unfold Obligations.AccessesResetFlags
  intro v b d
  dsimp only
  rw [readEffect_orb, readEffect_ora, readEffect_oraNoHandshake, write_orb, write_ora, write_oraNoHandshake,
    write_t1cH, write_t2cH, startedC2_a]
  refine ⟨rfl, rfl, rfl, rfl, rfl, rfl, rfl, rfl, rfl, rfl, rfl, rfl, rfl, rfl, ?flags⟩
  intro k hk
  have hb : (v.clearPortFlags .b).flag k = _ := flag_clearPortFlags_of_bits .b v hk
  have ha : (v.clearPortFlags .a).flag k = _ := flag_clearPortFlags_of_bits .a v hk
  rw [Via.pcrActive, Bool.and_true] at ha
  have hclear : ∀ j, (v.clearFlag j).flag k = _ := fun j => flag_clearFlag_eq v hk
  have hcases := flag_maybeClearPortA_cases v d hk
  refine ⟨hb, hb, ha, ha, hclear t1Flag, hclear t1Flag, hclear t2Flag, hclear t2Flag, hclear srFlag, hclear srFlag,
    ?noEffect, ?noFlag, ?registerF, rfl, rfl, rfl, rfl⟩
  case noEffect =>
    simp only [List.forall_mem_cons, List.not_mem_nil, false_implies, implies_true, and_true, Via.readEffect]
  case noFlag =>
    intro r hr
    fin_cases hr <;> rfl
  case registerF =>
    simp only [List.forall_mem_cons, List.not_mem_nil, false_implies, implies_true, and_true]
    exact ⟨hcases, hcases⟩

/-! ### The data direction and control registers -/

theorem write_ddra (v : Via) (b : Byte) (d : Nat) :
    v.write .ddra b d = { v with portA := { v.portA with ddr := b } } := rfl

theorem write_ddrb (v : Via) (b : Byte) (d : Nat) :
    v.write .ddrb b d = { v with portB := { v.portB with ddr := b } } := rfl

/-- R306: a write of PCR changes no more than it and the levels of CA2 and CB2 as outputs. -/
theorem write_pcr (v : Via) (b : Byte) (d : Nat) :
    v.write .pcr b d =
      { v with
        pcr := b
        ctlA := { v.ctlA with c2Out := (v.write .pcr b d).ctlA.c2Out }
        ctlB := { v.ctlB with c2Out := (v.write .pcr b d).ctlB.c2Out } } := by
  have ha : (v.write .pcr b d).ctlA = { v.ctlA with c2Out := (v.write .pcr b d).ctlA.c2Out } := c2AfterPcr_eq ..
  have hb : (v.write .pcr b d).ctlB = { v.ctlB with c2Out := (v.write .pcr b d).ctlB.c2Out } := c2AfterPcr_eq ..
  rw [← ha, ← hb]
  rfl

theorem flag_write_acr (v : Via) (b : Byte) (d : Nat) {k : Nat} (hk : k < 7) :
    (v.write .acr b d).flag k = (v.flag k && !(decide (k = srFlag) && shiftMode b == 0)) := by
  rw [write_acr]
  cases hmode : shiftMode b == 0 with
  | false => rw [Bool.and_false, Bool.not_false, Bool.and_true]; rfl
  | true =>
    rw [Bool.and_true, Bool.and_comm (v.flag k)]
    exact flag_clearFlag_eq v hk

theorem shiftsAfterModeChange_zero (m d left : Nat) : shiftsAfterModeChange m 0 d left = 0 := by
  rw [shiftsAfterModeChange, beq_self_eq_true, Bool.true_or, if_pos rfl]

/-- Settles O49: the writes by their equations, the pins bit by bit, reads and reset by their records. -/
theorem directionAndControlRegisters : Obligations.DirectionAndControlRegisters := by
  unfold Obligations.DirectionAndControlRegisters
  intro v b d
  refine ⟨write_ddra v b d, write_ddrb v b d, ?pins, write_pcr v b d,
    ⟨?acr, fun k hk => flag_write_acr v b d hk, ?count, ?pb7, ?sameMode⟩, ?reads, rfl, rfl, rfl, rfl, rfl, rfl⟩
  case pins => exact fun k hk => ⟨pins_a_getLsbD _ hk, pins_b_getLsbD _ hk⟩
  case acr =>
    rw [write_acr, c2AfterShift_eq]
  case count =>
    intro hmode
    rw [write_acr, hmode]
    exact shiftsAfterModeChange_zero (shiftMode v.acr) d v.shifter.left
  case pb7 =>
    intro hsame
    rw [write_acr, hsame, Bool.and_not_self]
    rfl
  case sameMode =>
    intro hsame
    rw [write_acr, hsame]
    refine ⟨?_, if_pos (beq_self_eq_true _), if_pos (beq_self_eq_true _)⟩
    exact if_neg (by rw [bne, Bool.not_and_self]; exact Bool.false_ne_true)
  case reads =>
    simp only [List.forall_mem_cons, List.not_mem_nil, false_implies, implies_true, and_true]
    refine ⟨⟨rfl, rfl, rfl, rfl⟩, ⟨rfl, rfl, rfl, rfl⟩, ⟨?_, rfl, rfl, rfl⟩, ⟨rfl, rfl, rfl, rfl⟩⟩
    rw [write_acr]
    rfl

end Sys2Proof.Proofs.ViaPorts

/-! The two timers of a VIA (R292 to R302): what one clock pulse changes, what many do to timer 1 as an iteration of one
function on its own record, and what many counts do to timer 2. -/

namespace Sys2Proof.Proofs.Timers

open Sys2Proof Sys2Proof.Machine
open Sys2Proof.Proofs.ViaRegisters

/-! ### One clock pulse -/

theorem endPulse_eq (side : Side) (v : Via) :
    v.endPulse side = v.setCtl side { v.ctl side with c2Out := (v.ctl side).c2Out || c2Pulse (v.bits side) } := by
  unfold Via.endPulse
  cases c2Pulse (v.bits side) with
  | false => rw [Bool.or_false]; cases side <;> rfl
  | true => rw [Bool.or_true]; rfl

/-- The flag `k` alone, if `c` holds. -/
def raised (c : Bool) (k : Nat) : BitVec 7 := if c then flagBit k else 0

theorem raised_getLsbD (c : Bool) (k : Nat) {j : Nat} (hj : j < 7) :
    (raised c k).getLsbD j = (c && decide (k = j)) := by
  cases c with
  | false => exact BitVec.getLsbD_zero
  | true =>
    refine (flagBit_getLsbD k j).trans ?_
    rw [decide_eq_true hj]

theorem setFlag_if (c : Bool) (k : Nat) (v : Via) :
    (if c then v.setFlag k else v) = { v with ifr := v.ifr ||| raised c k } := by
  cases c with
  | false => rw [show raised false k = 0 from rfl, BitVec.ofNat_eq_ofNat, BitVec.or_zero]; rfl
  | true => rfl

theorem countT2_eq (v : Via) :
    v.countT2 = { v with t2 := v.t2.count, ifr := v.ifr ||| raised v.t2.fires t2Flag } := by
  rw [Via.countT2, setFlag_if]

/-- A clock pulse changes the timers, the levels of C2 in the pulse mode, and the flags of the timers. -/
theorem tick_eq (v : Via) :
    v.tick =
      { v with
        ctlA := { v.ctlA with c2Out := v.ctlA.c2Out || c2Pulse (v.bits .a) }
        ctlB := { v.ctlB with c2Out := v.ctlB.c2Out || c2Pulse (v.bits .b) }
        t1 := v.t1.tick v.freeRunning v.drivesPb7
        t2 := if v.pulseCounting then v.t2 else v.t2.count
        ifr := v.ifr ||| raised (v.t1.fires v.freeRunning) t1Flag |||
          raised (!v.pulseCounting && v.t2.fires) t2Flag } := by
  simp only [Via.tick, setFlag_if, countT2_eq, endPulse_eq]
  cases v.pulseCounting with
  | false => rfl
  | true =>
    rw [Bool.not_true, Bool.false_and, show raised false t2Flag = 0 from rfl, BitVec.ofNat_eq_ofNat, BitVec.or_zero]
    rfl

theorem flag_countT2 (v : Via) {j : Nat} (hj : j < 7) :
    v.countT2.flag j = (v.flag j || (v.t2.fires && decide (t2Flag = j))) := by
  rw [countT2_eq, Via.flag, BitVec.getLsbD_or, raised_getLsbD _ _ hj]
  rfl

/-- The flags after a clock pulse: timer 1's if it fires, and timer 2's if it fires in its timed mode. -/
theorem flag_tick (v : Via) {j : Nat} (hj : j < 7) :
    v.tick.flag j =
      (v.flag j || (v.t1.fires v.freeRunning && decide (t1Flag = j)) ||
        (!v.pulseCounting && v.t2.fires && decide (t2Flag = j))) := by
  rw [tick_eq, Via.flag, BitVec.getLsbD_or, BitVec.getLsbD_or, raised_getLsbD _ _ hj, raised_getLsbD _ _ hj]
  rfl

theorem t1_tick (v : Via) : v.tick.t1 = v.t1.tick v.freeRunning v.drivesPb7 := by rw [tick_eq]

theorem t2_tick (v : Via) : v.tick.t2 = if v.pulseCounting then v.t2 else v.t2.count := by rw [tick_eq]

theorem acr_tick (v : Via) : v.tick.acr = v.acr := by rw [tick_eq]

theorem flag_t1_tick (v : Via) : v.tick.flag t1Flag = (v.flag t1Flag || v.t1.fires v.freeRunning) := by
  have hother : decide (t2Flag = t1Flag) = false := rfl
  rw [flag_tick v (by decide), hother, Bool.and_false, Bool.or_false, decide_eq_true rfl, Bool.and_true]

/-! ### Many clock pulses -/

theorem ticks_succ (n : Nat) (v : Via) : Via.ticks (n + 1) v = (Via.ticks n v).tick := by
  induction n generalizing v with
  | zero => rfl
  | succ n ih => exact ih v.tick

theorem acr_ticks (n : Nat) (v : Via) : (Via.ticks n v).acr = v.acr := by
  induction n with
  | zero => rfl
  | succ n ih => rw [ticks_succ, acr_tick, ih]

theorem freeRunning_ticks (n : Nat) (v : Via) : (Via.ticks n v).freeRunning = v.freeRunning := by
  rw [Via.freeRunning, acr_ticks]
  rfl

theorem drivesPb7_ticks (n : Nat) (v : Via) : (Via.ticks n v).drivesPb7 = v.drivesPb7 := by
  rw [Via.drivesPb7, acr_ticks]
  rfl

/-- Timer 1 runs by itself: no other part of the VIA enters. -/
theorem t1_ticks (n : Nat) (v : Via) :
    (Via.ticks n v).t1 = (Timer1.tick v.freeRunning v.drivesPb7)^[n] v.t1 := by
  induction n with
  | zero => rfl
  | succ n ih =>
    rw [ticks_succ, t1_tick, ih, freeRunning_ticks, drivesPb7_ticks, Function.iterate_succ_apply']

theorem flag_t1_ticks_succ (n : Nat) (v : Via) :
    (Via.ticks (n + 1) v).flag t1Flag =
      ((Via.ticks n v).flag t1Flag || ((Timer1.tick v.freeRunning v.drivesPb7)^[n] v.t1).fires v.freeRunning) := by
  rw [ticks_succ, flag_t1_tick, t1_ticks, freeRunning_ticks]

/-- The T1 flag stays while the timer does not fire. -/
theorem flag_t1_ticks_of_silent {n : Nat} {v : Via}
    (h : ∀ k < n, ((Timer1.tick v.freeRunning v.drivesPb7)^[k] v.t1).fires v.freeRunning = false) :
    (Via.ticks n v).flag t1Flag = v.flag t1Flag := by
  induction n with
  | zero => rfl
  | succ n ih =>
    rw [flag_t1_ticks_succ, h n (Nat.lt_succ_self n), Bool.or_false]
    exact ih fun k hk => h k (Nat.lt_succ_of_lt hk)

/-! ### Timer 1 on its way to zero -/

theorem toNat_sub_ofNat {c : BitVec 16} {n : Nat} (hn : n ≤ c.toNat) :
    (c - BitVec.ofNat 16 n).toNat = c.toNat - n := by
  have hc := c.isLt
  rw [BitVec.toNat_sub, BitVec.toNat_ofNat]
  omega

theorem sub_ofNat_eq_one {c : BitVec 16} {n : Nat} (hn : n + 1 = c.toNat) : c - BitVec.ofNat 16 n = 1 := by
  apply BitVec.eq_of_toNat_eq
  rw [toNat_sub_ofNat (by omega), ← hn, Nat.add_sub_cancel_left]
  rfl

theorem sub_ofNat_succ (c : BitVec 16) (n : Nat) : c - BitVec.ofNat 16 n - 1 = c - BitVec.ofNat 16 (n + 1) := by
  rw [BitVec.ofNat_add]
  exact sub_sub ..

variable {t : Timer1} {freeRun drives : Bool} {n : Nat}

theorem reachesZero_of_one_lt (h : 1 < t.counter.toNat) : t.reachesZero freeRun = false := by
  have h1 : t.counter ≠ 1 := by
    rintro heq
    rw [heq] at h
    exact absurd h (by decide)
  have h0 : t.counter ≠ 0 := by
    rintro heq
    rw [heq] at h
    exact absurd h (by decide)
  rw [Timer1.reachesZero, beq_false_of_ne h1, beq_false_of_ne h0, Bool.false_and, Bool.false_and, Bool.or_false,
    Bool.and_false]

theorem tick_of_one_lt (hopen : t.isOpen = false) (h : 1 < t.counter.toNat) :
    t.tick freeRun drives = { t with counter := t.counter - 1 } := by
  rw [Timer1.tick, hopen, reachesZero_of_one_lt h]
  rfl

/-- R296: the counter goes down by one at each pulse. -/
theorem iterate_tick_of_lt (hopen : t.isOpen = false) (h : n < t.counter.toNat) :
    (Timer1.tick freeRun drives)^[n] t = { t with counter := t.counter - BitVec.ofNat 16 n } := by
  induction n with
  | zero => rw [Function.iterate_zero_apply, BitVec.sub_zero]
  | succ n ih =>
    have hcount := toNat_sub_ofNat (c := t.counter) (n := n) (by omega)
    rw [Function.iterate_succ_apply', ih (by omega), ← sub_ofNat_succ]
    exact tick_of_one_lt (t := { t with counter := t.counter - BitVec.ofNat 16 n }) hopen (hcount ▸ by omega)

theorem silent_of_lt (hopen : t.isOpen = false) (h : n < t.counter.toNat) :
    ∀ k < n, ((Timer1.tick freeRun drives)^[k] t).fires freeRun = false := by
  intro k hk
  have hcount := toNat_sub_ofNat (c := t.counter) (n := k) (by omega)
  have hlt : 1 < (t.counter - BitVec.ofNat 16 k).toNat := by omega
  rw [iterate_tick_of_lt hopen (by omega), Timer1.fires, reachesZero_of_one_lt hlt, Bool.false_and]

/-- One pulse before zero the counter is at one. -/
theorem iterate_tick_to_one (hopen : t.isOpen = false) (h : n + 1 = t.counter.toNat) :
    (Timer1.tick freeRun drives)^[n] t = { t with counter := 1 } := by
  rw [iterate_tick_of_lt hopen (by omega), sub_ofNat_eq_one h]

theorem reachesZero_of_one (hopen : t.isOpen = false) (h : t.counter = 1) : t.reachesZero freeRun = true := by
  rw [Timer1.reachesZero, hopen, h]
  rfl

theorem fires_of_one (hopen : t.isOpen = false) (h : t.counter = 1) : t.fires freeRun = (freeRun || t.armed) := by
  rw [Timer1.fires, reachesZero_of_one hopen h, Bool.true_and]

/-- The pulse that takes a one-shot timer to zero. -/
theorem tick_of_one_oneShot (hopen : t.isOpen = false) (harmed : t.armed = true) (h : t.counter = 1) :
    t.tick false drives =
      { t with counter := 0, armed := false, isOpen := !t.countsOn, pb7 := if drives then true else t.pb7 } := by
  rw [Timer1.tick, hopen, reachesZero_of_one hopen h, harmed, h, Bool.and_true]
  rfl

/-- The pulse that takes a free-running timer to zero. -/
theorem tick_of_one_freeRunning (hopen : t.isOpen = false) (h : t.counter = 1) :
    t.tick true drives =
      { t with
        counter := mkAddr t.latchHigh t.latchLow, armed := false
        pb7 := if drives then !t.pb7 else t.pb7 } := by
  rw [Timer1.tick, hopen, reachesZero_of_one hopen h]
  rfl

/-- The flag at the pulse that takes the counter to zero. -/
theorem flag_t1_at_zero {v : Via} (hopen : v.t1.isOpen = false) (hpos : 0 < v.t1.counter.toNat)
    (hfire : (v.freeRunning || v.t1.armed) = true) :
    (Via.ticks v.t1.counter.toNat v).flag t1Flag = true := by
  obtain ⟨n, hn⟩ : ∃ n, n + 1 = v.t1.counter.toNat := ⟨v.t1.counter.toNat - 1, by omega⟩
  rw [← hn, flag_t1_ticks_succ, iterate_tick_to_one hopen hn, fires_of_one (by exact hopen) rfl, hfire, Bool.or_true]

/-! ### A free-running timer 1 -/

theorem t1_at_zero_freeRunning {v : Via} (hfree : v.freeRunning = true) (hopen : v.t1.isOpen = false)
    (hpos : 0 < v.t1.counter.toNat) :
    (Via.ticks v.t1.counter.toNat v).t1 =
      { v.t1 with
        counter := mkAddr v.t1.latchHigh v.t1.latchLow, armed := false
        pb7 := if v.drivesPb7 then !v.t1.pb7 else v.t1.pb7 } := by
  obtain ⟨n, hn⟩ : ∃ n, n + 1 = v.t1.counter.toNat := ⟨v.t1.counter.toNat - 1, by omega⟩
  rw [← hn, t1_ticks, Function.iterate_succ_apply', iterate_tick_to_one hopen hn, hfree]
  exact tick_of_one_freeRunning (t := { v.t1 with counter := 1 }) hopen rfl

/-- Settles O53: the iteration up to the pulse before zero, and that pulse. -/
theorem timer1FreeRunning : Obligations.Timer1FreeRunning := by
  unfold Obligations.Timer1FreeRunning
  intro v n hfree hopen hpos
  refine ⟨?before, ?atZero⟩
  case before =>
    intro hn
    refine ⟨flag_t1_ticks_of_silent (silent_of_lt hopen hn), ?_⟩
    rw [t1_ticks, iterate_tick_of_lt hopen hn]
  case atZero =>
    refine ⟨flag_t1_at_zero hopen hpos (by rw [hfree, Bool.true_or]), ?_⟩
    rw [t1_at_zero_freeRunning hfree hopen hpos]
    exact ⟨rfl, hopen, rfl⟩

/-! ### A one-shot timer 1 -/

theorem t1_at_zero_oneShot {v : Via} (hone : v.freeRunning = false) (hopen : v.t1.isOpen = false)
    (harmed : v.t1.armed = true) (hpos : 0 < v.t1.counter.toNat) :
    (Via.ticks v.t1.counter.toNat v).t1 =
      { v.t1 with
        counter := 0, armed := false, isOpen := !v.t1.countsOn
        pb7 := if v.drivesPb7 then true else v.t1.pb7 } := by
  obtain ⟨n, hn⟩ : ∃ n, n + 1 = v.t1.counter.toNat := ⟨v.t1.counter.toNat - 1, by omega⟩
  rw [← hn, t1_ticks, Function.iterate_succ_apply', iterate_tick_to_one hopen hn, hone]
  exact tick_of_one_oneShot (t := { v.t1 with counter := 1 }) hopen harmed rfl

/-- Once it has reached zero a one-shot timer is not armed, and no pulse arms it or moves PB7. -/
theorem tick_of_disarmed (h : t.armed = false) :
    (t.tick false drives).armed = false ∧ (t.tick false drives).pb7 = t.pb7 := by
  unfold Timer1.tick
  split
  · exact ⟨h, rfl⟩
  · split
    · simp [h]
    · exact ⟨h, rfl⟩

theorem iterate_tick_of_disarmed (h : t.armed = false) (n : Nat) :
    ((Timer1.tick false drives)^[n] t).armed = false ∧ ((Timer1.tick false drives)^[n] t).pb7 = t.pb7 := by
  induction n with
  | zero => exact ⟨h, rfl⟩
  | succ n ih =>
    obtain ⟨harmed, hpb7⟩ := ih
    rw [Function.iterate_succ_apply', ← hpb7]
    exact tick_of_disarmed harmed

theorem flag_t1_ticks_of_disarmed {v : Via} (hone : v.freeRunning = false) (h : v.t1.armed = false) (n : Nat) :
    (Via.ticks n v).flag t1Flag = v.flag t1Flag := by
  refine flag_t1_ticks_of_silent fun k _ => ?_
  rw [hone, Timer1.fires, (iterate_tick_of_disarmed h k).1, Bool.or_false, Bool.and_false]

theorem pb7_ticks_of_disarmed {v : Via} (hone : v.freeRunning = false) (h : v.t1.armed = false) (n : Nat) :
    (Via.ticks n v).t1.pb7 = v.t1.pb7 := by
  rw [t1_ticks, hone]
  exact (iterate_tick_of_disarmed h n).2

/-- A counter that goes on after zero (R296) goes down without end. -/
theorem tick_of_countsOn (hopen : t.isOpen = false) (harmed : t.armed = false) (hon : t.countsOn = true) :
    t.tick false drives = { t with counter := t.counter - 1 } := by
  obtain ⟨counter, latchLow, latchHigh, isOpen, armed, zeroElapsed, countsOn, pb7⟩ := t
  dsimp only at hopen harmed hon
  subst hopen harmed hon
  simp only [Timer1.tick, Bool.false_eq_true, if_false, Bool.and_false, Bool.not_true, ite_self]

theorem iterate_tick_of_countsOn (hopen : t.isOpen = false) (harmed : t.armed = false) (hon : t.countsOn = true)
    (n : Nat) : (Timer1.tick false drives)^[n] t = { t with counter := t.counter - BitVec.ofNat 16 n } := by
  induction n with
  | zero => rw [Function.iterate_zero_apply, BitVec.sub_zero]
  | succ n ih =>
    rw [Function.iterate_succ_apply', ih, ← sub_ofNat_succ]
    exact tick_of_countsOn (t := { t with counter := t.counter - BitVec.ofNat 16 n }) hopen harmed hon

/-- A counter without stated contents (U18) stays so until it is loaded. -/
theorem iterate_tick_of_open (hopen : t.isOpen = true) (n : Nat) : (Timer1.tick freeRun drives)^[n] t = t :=
  Function.iterate_fixed (by rw [Timer1.tick, if_pos hopen]) n

/-- Settles O52: the load leaves the timer armed with PB7 low; the iteration up to zero; after zero the timer is not
armed, and its counter goes on or is open as the bit `on` says. -/
theorem timer1OneShot : Obligations.Timer1OneShot := by
  unfold Obligations.Timer1OneShot
  intro v lo hi d n on hone
  dsimp only
  rw [loaded_t1]
  intro hpos
  generalize hw : ({ v with ifr := _, t1 := _ } : Via) = w
  have hflag : w.flag t1Flag = false := hw ▸ flag_clearFlag_self (by decide) v
  have hcount : w.t1.counter = mkAddr hi lo := hw ▸ rfl
  have hopen : w.t1.isOpen = false := hw ▸ rfl
  have harmed : w.t1.armed = true := hw ▸ rfl
  have hon : w.t1.countsOn = on := hw ▸ rfl
  have hpb7 : w.t1.pb7 = (v.t1.pb7 && !v.drivesPb7) := hw ▸ rfl
  have hdrives : w.drivesPb7 = v.drivesPb7 := hw ▸ rfl
  have hfree : w.freeRunning = false := hw ▸ hone
  rw [← hcount] at hpos ⊢
  have hzero := t1_at_zero_oneShot hfree hopen harmed hpos
  have hset := flag_t1_at_zero hopen hpos (by rw [harmed, Bool.or_true])
  have hfreeZero := (freeRunning_ticks w.t1.counter.toNat w).trans hfree
  generalize Via.ticks w.t1.counter.toNat w = z at hzero hset hfreeZero ⊢
  have hdisarmed : z.t1.armed = false := by rw [hzero]
  refine ⟨?before, hset, ?pb7, ?onceCleared, ?goesOn, ?isOpen⟩
  case before =>
    intro hn
    refine ⟨(flag_t1_ticks_of_silent (silent_of_lt hopen hn)).trans hflag, ?_⟩
    rw [t1_ticks, iterate_tick_of_lt hopen hn]
    exact ⟨toNat_sub_ofNat hn.le, hopen⟩
  case pb7 =>
    intro hpb7Driven
    refine ⟨fun hn => ?low, ?high⟩
    case low =>
      rw [t1_ticks, iterate_tick_of_lt hopen hn]
      simp only [hpb7, hpb7Driven, Bool.not_true, Bool.and_false]
    case high =>
      rw [pb7_ticks_of_disarmed hfreeZero hdisarmed, hzero]
      simp only [hdrives, hpb7Driven, if_true]
  case onceCleared =>
    exact (flag_t1_ticks_of_disarmed (v := z.clearFlag t1Flag) hfreeZero hdisarmed n).trans
      (flag_clearFlag_self (by decide) z)
  case goesOn =>
    intro honTrue hn
    have hopenZero : z.t1.isOpen = false := by rw [hzero, hon, honTrue]; rfl
    have hcounterZero : z.t1.counter = 0 := by rw [hzero]
    have honZero : z.t1.countsOn = true := by rw [hzero]; exact hon.trans honTrue
    rw [t1_ticks, hfreeZero, iterate_tick_of_countsOn hopenZero hdisarmed honZero, hcounterZero]
    refine ⟨hopenZero, ?_⟩
    rw [BitVec.toNat_sub, BitVec.toNat_ofNat, Nat.mod_eq_of_lt hn]
    rfl
  case isOpen =>
    intro honFalse e
    have hopenZero : z.t1.isOpen = true := by rw [hzero, hon, honFalse]; rfl
    have hafter : (Via.ticks n z).t1.isOpen = true := by rw [t1_ticks, iterate_tick_of_open hopenZero, hopenZero]
    exact ⟨if_pos hafter, if_pos hafter⟩

/-! ### Timer 2 -/

theorem fires_of_one_lt {u : Timer2} (h : 1 < u.counter.toNat) : u.fires = false := by
  have h1 : u.counter ≠ 1 := by
    rintro heq
    rw [heq] at h
    exact absurd h (by decide)
  have h0 : u.counter ≠ 0 := by
    rintro heq
    rw [heq] at h
    exact absurd h (by decide)
  rw [Timer2.fires, beq_false_of_ne h1, beq_false_of_ne h0, Bool.false_and, Bool.or_false, Bool.and_false]

theorem count_of_one_lt {u : Timer2} (hopen : u.isOpen = false) (h : 1 < u.counter.toNat) :
    u.count = { u with counter := u.counter - 1 } := by
  rw [Timer2.count, hopen, fires_of_one_lt h, if_neg Bool.false_ne_true, ← hopen]

/-- `n` counts of timer 2. -/
def countT2s (v : Via) (n : Nat) : Via := Nat.rec v (fun _ x => x.countT2) n

theorem countT2s_succ (v : Via) (n : Nat) : countT2s v (n + 1) = (countT2s v n).countT2 := rfl

/-- R301: before its last count timer 2 is on its way to zero, and its flag stays. -/
theorem countT2s_of_lt {v : Via} (hopen : v.t2.isOpen = false) {n : Nat} (h : n < v.t2.counter.toNat) :
    (countT2s v n).t2 = { v.t2 with counter := v.t2.counter - BitVec.ofNat 16 n } ∧
    (countT2s v n).flag t2Flag = v.flag t2Flag := by
  induction n with
  | zero => exact ⟨by rw [BitVec.sub_zero]; rfl, rfl⟩
  | succ n ih =>
    obtain ⟨ht2, hflag⟩ := ih (by omega)
    have hcount := toNat_sub_ofNat (c := v.t2.counter) (n := n) (by omega)
    have hlt : 1 < (countT2s v n).t2.counter.toNat := by rw [ht2]; simp only; omega
    have hopen' : (countT2s v n).t2.isOpen = false := by rw [ht2]; exact hopen
    refine ⟨?_, ?_⟩
    · rw [countT2s_succ, countT2_eq]
      rw [count_of_one_lt hopen' hlt, ht2, sub_ofNat_succ]
    · rw [countT2s_succ, flag_countT2 _ (by decide), fires_of_one_lt hlt, Bool.false_and, Bool.or_false, hflag]

/-- The last count sets the flag. -/
theorem flag_countT2s_at_zero {v : Via} (hopen : v.t2.isOpen = false) (hpos : 0 < v.t2.counter.toNat) :
    (countT2s v v.t2.counter.toNat).flag t2Flag = true := by
  obtain ⟨n, hn⟩ : ∃ n, n + 1 = v.t2.counter.toNat := ⟨v.t2.counter.toNat - 1, by omega⟩
  obtain ⟨ht2, -⟩ := countT2s_of_lt hopen (n := n) (by omega)
  have hone : v.t2.counter - BitVec.ofNat 16 n = 1 := sub_ofNat_eq_one hn
  have hfires : (countT2s v n).t2.fires = true := by
    rw [ht2, hone, Timer2.fires, hopen]
    rfl
  rw [← hn, countT2s_succ, flag_countT2 _ (by decide), hfires, decide_eq_true rfl, Bool.and_true, Bool.or_true]

/-- Settles O54: the load, the induction on the counts, and what a clock pulse and a pulse on PB6 are to timer 2. -/
theorem timer2Counts : Obligations.Timer2Counts := by
  unfold Obligations.Timer2Counts
  intro v lo hi d n
  dsimp only
  rw [write_t2cH]
  refine ⟨flag_clearFlag_self (by decide) v, ?readLow, ?readHigh, ?reads, ?counts, ?clockIgnored, ?clockCounts,
    ?pulseCounts, ?pulseIgnored⟩
  case readLow => exact (readValue_t2cL rfl d).trans (loByte_mkAddr hi lo)
  case readHigh => exact (readValue_t2cH rfl d).trans (hiByte_mkAddr hi lo)
  case reads =>
    intro hopen
    rw [readValue_t2cL hopen, readValue_t2cH hopen]
    exact ⟨loByte_toNat _, hiByte_toNat _⟩
  case counts =>
    intro hpos
    refine ⟨fun hn => ?_, flag_countT2s_at_zero rfl hpos⟩
    obtain ⟨ht2, hflag⟩ := countT2s_of_lt (v := (v.write .t2cL lo d).write .t2cH hi d) rfl hn
    exact ⟨hflag.trans (flag_clearFlag_self (by decide) v),
      (congrArg (·.counter.toNat) ht2).trans (toNat_sub_ofNat hn.le)⟩
  case clockIgnored =>
    intro hpulse
    rw [t2_tick, hpulse, if_pos rfl]
  case clockCounts =>
    intro hpulse
    have hother : decide (t1Flag = t2Flag) = false := rfl
    refine ⟨?_, ?_⟩
    · rw [t2_tick, countT2_eq, hpulse, if_neg Bool.false_ne_true]
    · rw [flag_tick v (by decide), flag_countT2 v (by decide), hother, hpulse, Bool.and_false, Bool.or_false,
        Bool.not_false, Bool.true_and]
  case pulseCounts =>
    intro hpulse hinput
    rw [Via.pb6Pulse, hpulse, hinput]
    rfl
  case pulseIgnored =>
    intro hpulse
    rw [Via.pb6Pulse, hpulse]
    rfl

end Sys2Proof.Proofs.Timers

/-! The shift register of a VIA (R303, R304): what one pulse does to the count and the flag, and what many do. -/

namespace Sys2Proof.Proofs.ShiftRegister

open Sys2Proof Sys2Proof.Machine
open Sys2Proof.Proofs.ViaRegisters (flag_clearFlag_self)

/-! ### One pulse -/

/-- The shifts still to come as the next pulse finds them: in mode 3 the next eight begin by themselves. -/
def due (v : Via) : Nat := if shiftMode v.acr == 3 && v.shifter.left == 0 then 8 else v.shifter.left

theorem due_of_left {v : Via} (h : v.shifter.left ≠ 0) : due v = v.shifter.left := by
  rw [due, beq_false_of_ne h, Bool.and_false, if_neg Bool.false_ne_true]

theorem due_of_mode_three {v : Via} (h : shiftMode v.acr = 3) :
    due v = if v.shifter.left = 0 then 8 else v.shifter.left := by
  simp only [due, h, beq_self_eq_true, Bool.true_and, beq_iff_eq]

theorem due_of_other_mode {v : Via} (h : shiftMode v.acr ≠ 3) : due v = v.shifter.left := by
  rw [due, beq_false_of_ne h, Bool.false_and, if_neg Bool.false_ne_true]

variable {v : Via} {dir : ShiftDir} {d n : Nat}

/-- A disabled shift register ignores pulses. -/
theorem shiftPulse_of_disabled (h : shiftMode v.acr = 0) : v.shiftPulse dir d = v := by
  rw [Via.shiftPulse, h]
  rfl

/-- A pulse before the last shift counts and sets no flag. -/
theorem shiftPulse_of_one_lt (hmode : shiftMode v.acr ≠ 0) (h : 1 < due v) :
    v.shiftPulse dir d =
      { v with
        shifter :=
          { v.shifter.shift dir (shiftsOut (shiftMode v.acr)) v.ctlB.c2 d with left := due v - 1 } } := by
  have hidle : ¬ ((shiftMode v.acr == 0 || due v == 0) = true) := by
    simp only [Bool.or_eq_true, beq_iff_eq]
    omega
  have hlast : ¬ ((due v == 1) = true) := by
    rw [beq_iff_eq]
    omega
  exact (if_neg hidle).trans (if_neg hlast)

/-- The last shift of eight. -/
theorem shiftPulse_of_one (hmode : shiftMode v.acr ≠ 0) (h : due v = 1) :
    v.shiftPulse dir d =
      let v1 :=
        { v with
          shifter :=
            { v.shifter.shift dir (shiftsOut (shiftMode v.acr)) v.ctlB.c2 d with
              left := if shiftMode v.acr == 4 then 8 else 0 } }
      if shiftMode v.acr == 4 && !Config.anyBit (d + 4) then v1 else v1.setFlag srFlag := by
  have hidle : ¬ ((shiftMode v.acr == 0 || due v == 0) = true) := by
    simp only [Bool.or_eq_true, beq_iff_eq]
    omega
  exact (if_neg hidle).trans (if_pos (beq_iff_eq.mpr h))

theorem left_of_last_shift (hmode : shiftMode v.acr ≠ 0) (h : due v = 1) :
    (v.shiftPulse dir d).shifter.left = if shiftMode v.acr == 4 then 8 else 0 := by
  rw [shiftPulse_of_one hmode h]
  dsimp only
  split <;> rfl

theorem flag_of_last_shift (hmode : shiftMode v.acr ≠ 0) (hfour : shiftMode v.acr ≠ 4) (h : due v = 1) :
    (v.shiftPulse dir d).flag srFlag = true := by
  rw [shiftPulse_of_one hmode h, beq_false_of_ne hfour]
  refine (flag_setFlag _ _ _ (by decide)).trans ?_
  rw [decide_eq_true rfl, Bool.or_true]

/-! ### Many pulses -/

/-- `n` shift pulses, each with free values of its own. -/
def pulses (w : Via) (dir : ShiftDir) (d n : Nat) : Via := Nat.rec w (fun k x => x.shiftPulse dir (d + k)) n

theorem pulses_succ (w : Via) (dir : ShiftDir) (d n : Nat) :
    pulses w dir d (n + 1) = (pulses w dir d n).shiftPulse dir (d + n) := rfl

/-- What stays and what counts before the last shift. -/
structure Counting (w u : Via) (n : Nat) : Prop where
  acr : u.acr = w.acr
  flag : u.flag srFlag = w.flag srFlag
  due : due u = due w - n
  left : 0 < n → u.shifter.left = ShiftRegister.due w - n

theorem counting_of_lt {w : Via} (hmode : shiftMode w.acr ≠ 0) (h : n < due w) : Counting w (pulses w dir d n) n := by
  induction n with
  | zero => exact ⟨rfl, rfl, rfl, fun h0 => absurd h0 (Nat.lt_irrefl 0)⟩
  | succ n ih =>
    have hcounting := ih (by omega)
    have hone : 1 < due (pulses w dir d n) := by
      rw [hcounting.due]
      omega
    have hstep := shiftPulse_of_one_lt (dir := dir) (d := d + n) (by rwa [hcounting.acr]) hone
    rw [← pulses_succ] at hstep
    have hleft : (pulses w dir d (n + 1)).shifter.left = due w - (n + 1) := by
      rw [hstep, ← Nat.sub_sub, ← hcounting.due]
    refine ⟨?_, ?_, ?_, fun _ => hleft⟩
    · rw [hstep, ← hcounting.acr]
    · rw [hstep, ← hcounting.flag]
      rfl
    · rw [due_of_left (by omega), hleft]

/-- The pulse before the last shift leaves one to come. -/
theorem due_before_last {w : Via} (hmode : shiftMode w.acr ≠ 0) (h : due w = n + 1) :
    (pulses w dir d n).acr = w.acr ∧ due (pulses w dir d n) = 1 := by
  have hcounting := counting_of_lt (dir := dir) (d := d) hmode (n := n) (by omega)
  exact ⟨hcounting.acr, hcounting.due.trans (by omega)⟩

theorem left_pulses_last {w : Via} (hmode : shiftMode w.acr ≠ 0) (h : due w = n + 1) :
    (pulses w dir d (n + 1)).shifter.left = if shiftMode w.acr == 4 then 8 else 0 := by
  obtain ⟨hacr, hdue⟩ := due_before_last (dir := dir) (d := d) hmode h
  rw [pulses_succ, left_of_last_shift (by rwa [hacr]) hdue, hacr]

theorem flag_pulses_last {w : Via} (hmode : shiftMode w.acr ≠ 0) (hfour : shiftMode w.acr ≠ 4) (h : due w = n + 1) :
    (pulses w dir d (n + 1)).flag srFlag = true := by
  obtain ⟨hacr, hdue⟩ := due_before_last (dir := dir) (d := d) hmode h
  rw [pulses_succ, flag_of_last_shift (by rwa [hacr]) (by rwa [hacr]) hdue]

/-! ### An access of SR -/

/-- The count after a read or a write of SR. -/
theorem left_accessSr (u : Via) (d : Nat) :
    (u.accessSr d).shifter.left =
      if shiftMode u.acr == 0 then 0
      else if shiftMode u.acr == 3 then (if Config.anyBit d then 0 else u.shifter.left)
      else 8 := rfl

theorem acr_accessSr (u : Via) (d : Nat) : (u.accessSr d).acr = u.acr := rfl

theorem left_accessSr_of_mode_three {u : Via} (h : shiftMode u.acr = 3) (d : Nat) :
    (u.accessSr d).shifter.left = u.shifter.left ∨ (u.accessSr d).shifter.left = 0 := by
  rw [left_accessSr, h]
  cases Config.anyBit d with
  | false => exact .inl rfl
  | true => exact .inr rfl

theorem left_accessSr_of_eights {u : Via} (hzero : shiftMode u.acr ≠ 0) (hthree : shiftMode u.acr ≠ 3) (d : Nat) :
    (u.accessSr d).shifter.left = 8 := by
  rw [left_accessSr, beq_false_of_ne hzero, beq_false_of_ne hthree]
  rfl

/-- A write of SR is an access of SR with the byte in it. -/
theorem exists_accessSr {w : Via} {b : Byte} (h : w = v.write .sr b d ∨ w = v.readEffect .sr d) :
    ∃ u : Via, u.acr = v.acr ∧ u.shifter.left = v.shifter.left ∧ w = u.accessSr d := by
  rcases h with rfl | rfl
  · exact ⟨{ v with shifter := { v.shifter with sr := b } }, rfl, rfl, rfl⟩
  · exact ⟨v, rfl, rfl, rfl⟩

/-- Settles O55: the count as an access leaves it, and the induction on the pulses up to the last shift. -/
theorem shiftRegisterShiftsEight : Obligations.ShiftRegisterShiftsEight := by
  unfold Obligations.ShiftRegisterShiftsEight
  intro v w b dir d n
  dsimp only
  refine ⟨shiftPulse_of_disabled, rfl, rfl, rfl, ?access, ?modeThree⟩
  case access =>
    intro hw
    obtain ⟨u, hacr, hleft, rfl⟩ := exists_accessSr hw
    have hmode : shiftMode (u.accessSr d).acr = shiftMode v.acr := by rw [acr_accessSr, hacr]
    have heights : shiftMode v.acr ≠ 0 → shiftMode v.acr ≠ 3 → due (u.accessSr d) = 7 + 1 := by
      intro h0 h3
      rw [due_of_other_mode (by rwa [hmode]), left_accessSr_of_eights (by rwa [hacr]) (by rwa [hacr])]
    refine ⟨flag_clearFlag_self (by decide) _, ?three, ?counting, ?last, ?four⟩
    case three =>
      intro h3
      rw [← hleft]
      exact left_accessSr_of_mode_three (by rwa [hacr]) d
    case counting =>
      intro h0 h3 hn
      have hdue := heights h0 h3
      have hcounting := counting_of_lt (dir := dir) (d := d) (n := n) (by rwa [hmode]) (hn.trans_eq hdue.symm)
      refine ⟨hcounting.flag.trans (flag_clearFlag_self (by decide) _), ?_⟩
      rcases Nat.eq_zero_or_pos n with rfl | hpos
      · exact left_accessSr_of_eights (by rwa [hacr]) (by rwa [hacr]) d
      · exact (hcounting.left hpos).trans (by rw [hdue])
    case last =>
      intro h0 h3 h4
      have hdue := heights h0 h3
      refine ⟨flag_pulses_last (by rwa [hmode]) (by rwa [hmode]) hdue,
        (left_pulses_last (by rwa [hmode]) hdue).trans ?_⟩
      rw [hmode, beq_false_of_ne h4, if_neg Bool.false_ne_true]
    case four =>
      intro h4
      have h0 : shiftMode v.acr ≠ 0 := by omega
      refine (left_pulses_last (by rwa [hmode]) (heights h0 (by omega))).trans ?_
      rw [hmode, h4]
      rfl
  case modeThree =>
    intro h3
    rw [← due_of_mode_three h3]
    have h0 : shiftMode w.acr ≠ 0 := by omega
    obtain ⟨count, hcount⟩ : ∃ count, due w = count + 1 := by
      refine ⟨due w - 1, ?_⟩
      rw [due_of_mode_three h3]
      split <;> omega
    refine ⟨fun hn => ?before, ?atEight⟩
    case before =>
      have hcounting := counting_of_lt (dir := dir) (d := d) h0 hn
      exact ⟨hcounting.flag, hcounting.left⟩
    case atEight =>
      rw [hcount]
      refine ⟨flag_pulses_last h0 (by omega) hcount, (left_pulses_last h0 hcount).trans ?_⟩
      rw [h3]
      rfl

end Sys2Proof.Proofs.ShiftRegister

/-! The control lines CA2, CB1 and CB2 of a VIA (R304, R308 to R310): what a level from outside does to C2, and the
level on C2 by the bits of PCR. -/

namespace Sys2Proof.Proofs.ControlLineTwo

open Sys2Proof Sys2Proof.Machine
open Sys2Proof.Proofs.ControlLineOne
open Sys2Proof.Proofs.ViaPorts
open Sys2Proof.Proofs.Timers (tick_eq)

variable {v : Via} {side : Side} {high : Bool}

/-! ### A level on C2 of a side -/

/-- C2 of a side makes its active transition as an input when it takes the level `high`: the condition in
`Via.c2Event`. -/
def c2Active (side : Side) (high : Bool) (v : Via) : Bool :=
  v.pcrActive side && !c2IsOutput (v.bits side) && (v.ctl side).c2 != high && high == c2Rising (v.bits side)

/-- A level that is no active transition changes the level of the line alone. -/
theorem c2Event_of_inactive (h : c2Active side high v = false) :
    v.c2Event side high = v.setCtl side { v.ctl side with c2 := high } :=
  if_neg (ne_true_of_eq_false h)

theorem c2Event_of_active (h : c2Active side high v = true) :
    v.c2Event side high = (v.setCtl side { v.ctl side with c2 := high }).setFlag (c2Flag side) :=
  if_pos h

theorem flag_c2Event (side : Side) (high : Bool) (v : Via) :
    (v.c2Event side high).flag (c2Flag side) = (c2Active side high v || v.flag (c2Flag side)) := by
  have hlt : c2Flag side < 7 := by cases side <;> decide
  cases h : c2Active side high v with
  | false => rw [c2Event_of_inactive h, flag_setCtl, Bool.false_or]
  | true => rw [c2Event_of_active h, flag_setFlag _ _ _ hlt, decide_eq_true rfl, Bool.or_true, Bool.true_or]

/-- R308: an input's active transition is the one that PCR selects, while PCR acts on the side. -/
theorem c2Active_of_input (hpcr : v.pcrActive side = true) (hin : (sideBits v.pcr side).getLsbD 3 = false) :
    c2Active side high v = ((v.ctl side).c2 != high && high == (sideBits v.pcr side).getLsbD 2) := by
  have hinput : c2IsOutput (v.bits side) = false := hin
  rw [c2Active, hpcr, hinput, Bool.not_false, Bool.and_true, Bool.true_and]
  rfl

theorem c2Active_of_output (hout : (sideBits v.pcr side).getLsbD 3 = true) : c2Active side high v = false := by
  have houtput : c2IsOutput (v.bits side) = true := hout
  rw [c2Active, houtput, Bool.not_true, Bool.and_false, Bool.false_and, Bool.false_and]

theorem c2Active_of_not_pcrActive (hpcr : v.pcrActive side = false) : c2Active side high v = false := by
  rw [c2Active, hpcr, Bool.false_and, Bool.false_and, Bool.false_and]

theorem pcrActive_of (h : side = .a ∨ shiftMode v.acr = 0) : v.pcrActive side = true := by
  rcases h with rfl | hmode
  · rfl
  · cases side with
    | a => rfl
    | b => exact beq_iff_eq.mpr hmode

/-! ### The level on C2 -/

/-- R308 to R310: bit 3 of the side's bits makes C2 an output, bit 2 a fixed one, whose level bit 1 is. -/
theorem c2Level_of_pcrActive (hpcr : v.pcrActive side = true) :
    v.c2Level side =
      if (v.bits side).getLsbD 3 then
        (if (v.bits side).getLsbD 2 then (v.bits side).getLsbD 1 else (v.ctl side).c2Out)
      else (v.ctl side).c2 := by
  simp only [Via.c2Level, hpcr, if_true, c2Starts, c2IsOutput, c2Rising]
  cases (v.bits side).getLsbD 3 <;> cases (v.bits side).getLsbD 2 <;> rfl

/-- The level of C2 in the handshake and pulse modes. -/
theorem c2Level_of_starts (hpcr : v.pcrActive side = true) (h3 : (v.bits side).getLsbD 3 = true)
    (h2 : (v.bits side).getLsbD 2 = false) : v.c2Level side = (v.ctl side).c2Out := by
  rw [c2Level_of_pcrActive hpcr, h3, h2, if_pos rfl, if_neg Bool.false_ne_true]

/-- Bits 3, 2 and 1 of a side's bits are the mode of its C2. -/
theorem bits_of_mode {k : BitVec 4} {m : BitVec 3} (h : k.extractLsb' 1 3 = m) :
    k.getLsbD 3 = m.getLsbD 2 ∧ k.getLsbD 2 = m.getLsbD 1 ∧ k.getLsbD 1 = m.getLsbD 0 := by
  subst h
  simp

/-- An access that starts a handshake or a pulse makes C2 low. -/
theorem c2Level_of_started {w : Via} (hpcr : v.pcrActive side = true) (hpcr' : w.pcrActive side = true)
    (hbits : w.bits side = v.bits side) (hctl : w.ctl side = startedC2 side v)
    (h3 : (v.bits side).getLsbD 3 = true) (h2 : (v.bits side).getLsbD 2 = false) : w.c2Level side = false := by
  rw [c2Level_of_starts hpcr' (hbits ▸ h3) (hbits ▸ h2), hctl]
  rw [startedC2, h3, h2, hpcr]
  exact Bool.and_false _

/-- A clock pulse ends the pulse mode's pulse (R309). -/
theorem c2Level_tick_of_pulse (hpcr : v.pcrActive side = true) (h3 : (v.bits side).getLsbD 3 = true)
    (h2 : (v.bits side).getLsbD 2 = false) (h1 : (v.bits side).getLsbD 1 = true) : v.tick.c2Level side = true := by
  have hpulse : c2Pulse (v.bits side) = true := by rw [c2Pulse, h3, h2, h1]; rfl
  have hbits : v.tick.bits side = v.bits side := by rw [tick_eq]; rfl
  have hpcr' : v.tick.pcrActive side = true := by rw [tick_eq, ← hpcr]; cases side <;> rfl
  have hctl : (v.tick.ctl side).c2Out = ((v.ctl side).c2Out || c2Pulse (v.bits side)) := by
    rw [tick_eq]
    cases side <;> rfl
  rw [c2Level_of_starts hpcr' (hbits ▸ h3) (hbits ▸ h2), hctl, hpulse, Bool.or_true]

/-! ### CB1 -/

/-- R310: while the shift register is disabled PCR acts on CB1, and its bit 4 is the level that the active transition
ends at. -/
theorem c1Active_b (hmode : shiftMode v.acr = 0) (high : Bool) :
    c1Active .b high v = (v.ctlB.c1 != high && high == v.pcr.getLsbD 4) := by
  have rising : c1Rising (v.bits .b) = v.pcr.getLsbD 4 := by simp [c1Rising, Via.bits, sideBits]
  rw [c1Active, rising, pcrActive_of (.inr hmode), Bool.true_and]
  rfl

theorem pcrActive_b_of_shifting (hmode : shiftMode v.acr ≠ 0) : v.pcrActive .b = false := beq_false_of_ne hmode

theorem c1Active_of_not_pcrActive (hpcr : v.pcrActive side = false) : c1Active side high v = false := by
  rw [c1Active, hpcr, Bool.false_and, Bool.false_and]

/-- The end of a handshake makes C2 high. -/
theorem c2Level_c1Event_of_handshake (hpcr : v.pcrActive side = true) (hactive : c1Active side high v = true)
    (hhandshake : c2Handshake (v.bits side) = true) : (v.c1Event side high).c2Level side = true := by
  have h := hhandshake
  simp only [c2Handshake, Bool.and_eq_true, Bool.not_eq_true'] at h
  obtain ⟨⟨h3, h2⟩, -⟩ := h
  have hbits : (v.c1Event side high).bits side = v.bits side := by
    rw [c1Event_of_active hactive]
    cases side <;> rfl
  have hpcr' : (v.c1Event side high).pcrActive side = true := by
    rw [c1Event_of_active hactive, ← hpcr]
    cases side <;> rfl
  rw [c2Level_of_starts hpcr' (hbits ▸ h3) (hbits ▸ h2), c1Event_of_active hactive, ctl_setCtl, hhandshake]
  rfl

/-- Settles O57: C2 by the bits of PCR, then CB1 as PCR has it, then both in a shift mode, where PCR does not act. -/
theorem controlLinesFollowPcr : Obligations.ControlLinesFollowPcr := by
  unfold Obligations.ControlLinesFollowPcr
  intro v side high b d
  refine ⟨fun h => ?controlTwo, fun hmode => ?controlOne, fun hmode => ?shifting⟩
  case controlTwo =>
    have hpcr := pcrActive_of h
    refine ⟨fun hin => ?input, fun hout => ?output, fun hmode => ?low, fun hmode => ?high, fun hmode => ?starts,
      fun hmode => ?pulse⟩
    case input =>
      refine ⟨?_, ?_⟩
      · exact (flag_c2Event side high v).trans (by rw [c2Active_of_input hpcr hin])
      · exact (c2Level_of_pcrActive hpcr).trans (if_neg (ne_true_of_eq_false hin))
    case output =>
      refine (congrArg Via.ifr (c2Event_of_inactive (c2Active_of_output hout))).trans ?_
      cases side <;> rfl
    case low =>
      obtain ⟨h3, h2, h1⟩ := bits_of_mode hmode
      exact (c2Level_of_pcrActive hpcr).trans ((if_pos h3).trans ((if_pos h2).trans h1))
    case high =>
      obtain ⟨h3, h2, h1⟩ := bits_of_mode hmode
      exact (c2Level_of_pcrActive hpcr).trans ((if_pos h3).trans ((if_pos h2).trans h1))
    case starts =>
      obtain ⟨h3, h2⟩ : (v.bits side).getLsbD 3 = true ∧ (v.bits side).getLsbD 2 = false := by
        rcases hmode with hmode | hmode <;>
          obtain ⟨h3, h2, -⟩ := bits_of_mode hmode <;>
          exact ⟨h3, h2⟩
      refine ⟨?sideA, ?sideB⟩
      case sideA =>
        rintro rfl
        rw [readEffect_ora, write_ora, readEffect_oraNoHandshake]
        exact ⟨c2Level_of_started hpcr rfl rfl rfl h3 h2, c2Level_of_started hpcr rfl rfl rfl h3 h2, rfl⟩
      case sideB =>
        rintro rfl
        rw [readEffect_orb, write_orb]
        exact ⟨rfl, c2Level_of_started hpcr hpcr rfl rfl h3 h2⟩
    case pulse =>
      obtain ⟨h3, h2, h1⟩ := bits_of_mode hmode
      exact c2Level_tick_of_pulse hpcr h3 h2 h1
  case controlOne =>
    dsimp only [Via.event]
    rw [← c1Active_b hmode]
    have hport : (v.c1Event .b high).portB =
        if (c1Active .b high v && v.acr.getLsbD 1) = true then v.portB.capture (v.driven .b) else v.portB :=
      port_c1Event .b high v
    refine ⟨c1_c1Event .b high v, flag_c1Event .b high v, ?latched, ?notLatching, ?handshake, ?frame⟩
    case latched =>
      intro hactive hlatching
      rw [hport, hactive, hlatching]
      exact ⟨rfl, rfl⟩
    case notLatching =>
      intro hlatching
      rw [hport, hlatching, Bool.and_false]
      rfl
    case handshake => exact fun hactive => c2Level_c1Event_of_handshake (pcrActive_of (.inr hmode)) hactive
    case frame => exact fun hinactive => c1Event_of_inactive hinactive
  case shifting =>
    have hpcr := pcrActive_b_of_shifting hmode
    exact ⟨c1Event_of_inactive (c1Active_of_not_pcrActive hpcr), c2Event_of_inactive (c2Active_of_not_pcrActive hpcr)⟩

end Sys2Proof.Proofs.ControlLineTwo
